-- ==== Sys2Proof/Word.lean ====
section
/-!
DEFINITION. The word types of the GFQR engine: 32-bit words (R9), bytes (R9), and the three codes of a grid cell (R38).
-/

namespace Sys2Proof

/-- A control register, a command word or a port word: 32 bits (R9). -/
abbrev Word := BitVec 32

/-- A GF(256) element, a codeword, a STAGE byte or a polynomial coefficient: 8 bits (R9). -/
abbrev Byte := BitVec 8

/-- A natural number as a 32-bit word, modulo 2^32 (R9). -/
abbrev Word.ofNat (n : Nat) : Word := BitVec.ofNat 32 n

/-- One module of the grid: "tri-state cell {unassigned, light, dark}" (R38). Code 3 is never stored. -/
inductive Module where
  | unassigned
  | light
  | dark
  deriving DecidableEq, Repr, Inhabited

end Sys2Proof
end

