-- ==== Sys2Proof/Config.lean ====
section
/-!
DEFINITION. What is fixed for the machine: the reference parameters (R8), the identification constant (R2), and the
free values, which the spec leaves open. A free value is a constant with no body: no proof can see what it is.
-/

namespace Sys2Proof.Config

/-- `VMAX` (R8): the largest version the engine accepts. -/
@[simp] abbrev vMax : Nat := 40
/-- `NMAX` = 4*VMAX+17 (R8): the largest grid dimension. -/
@[simp] abbrev nMax : Nat := 177
/-- `POLY_MAX` (R8): the largest number of coefficients a polynomial register holds. -/
@[simp] abbrev polyMax : Nat := 256
/-- `STAGE_MAX` (R8): bytes in STAGE. -/
@[simp] abbrev stageMax : Nat := 8192
/-- `CW_MAX` (R8): bytes in each of BB, ECC and CW. -/
@[simp] abbrev cwMax : Nat := 4096
/-- `BB_BITS` = 8*CW_MAX (R8): bit capacity of the bit buffer. -/
@[simp] abbrev bbBits : Nat := 32768
/-- `BLK_MAX` (R8): entries of the RS block descriptor table. -/
@[simp] abbrev blkMax : Nat := 128
/-- `ALN_MAX` (R8): entries of the alignment-centre table. -/
@[simp] abbrev alnMax : Nat := 7
/-- The ID register's constant, ASCII "GFPE" (R2, R25). -/
abbrev idWord : Word := 0x47465045#32

/-- FREE VALUE (log 2). U4, D47 `step_delay`: how many host inputs may land between the acceptance of a command and
the engine's step, for the draw numbered by the argument. -/
opaque stepDelay : Nat → Nat

/-- FREE VALUE (log 3, log 4). U1, U2, U5: an unspecified 32-bit word, for the draw numbered by the argument. -/
opaque freeWord : Nat → Word

/-- FREE VALUE (log 4). U2: the unspecified byte of a memory location: draw number, then location. -/
opaque freeByte : Nat → Nat → Byte

/-- FREE VALUE (log 4). U2: the unspecified bits of the bit buffer, for the draw numbered by the argument. -/
opaque freeBits : Nat → List Bool

/-- FREE VALUE (log 4). U2: the unspecified code of a grid cell: draw number, row, column. -/
opaque freeModule : Nat → Nat → Nat → Module

/-- FREE VALUE (log 20). The code of a word of the GRID window that lies below MODCNT and names no cell of the
NMAX x NMAX GRID: row, column. Only a MODCNT drawn after a composed command's error (U2) makes such a word. -/
opaque absentCell : Nat → Nat → BitVec 2

/-- FREE VALUE (log 8). "LOG[0] holds no value" (R122). No run of the engine uses it. -/
opaque logOfZero : Nat

end Sys2Proof.Config
end

