-- ==== Sys2Proof/Syntax.lean ====
section
/-!
DEFINITION. The commands of GFQR-1, one constructor for each row of the opcode map (R95). Operand fields are already
parsed: a polynomial register index is 0..7 (R94), an immediate is the sub-field of IMM its row names.
-/

namespace Sys2Proof

/-- The 2-bit mode selector of a segment (R156): 0 Numeric, 1 AlphaNumeric, 2 Byte, 3 Kanji. -/
inductive SegMode where
  | numeric
  | alphanumeric
  | byte
  | kanji
  deriving DecidableEq, Repr

/-- A polynomial register P0..P7 (R94). -/
abbrev PReg := Fin 8

/-- A mask pattern 0..7 (R199). -/
abbrev MaskId := Fin 8

/-- The thirty commands, in the order of R95. -/
inductive Instr where
  /-- NOP, OP 0x00 (R226). -/
  | nop
  /-- GF.EXP, OP 0x01 (R126). -/
  | gfExp
  /-- GF.LOG, OP 0x02 (R127). -/
  | gfLog
  /-- GF.MUL, OP 0x03 (R128). -/
  | gfMul
  /-- P.CLR Pd, OP 0x10 (R141). -/
  | pClr (d : PReg)
  /-- P.LOAD Pd, #len, OP 0x11 (R142); len = IMM[8:0], legal in 1..256 (R96). -/
  | pLoad (d : PReg) (len : BitVec 9)
  /-- P.STORE Pa, OP 0x12 (R143). -/
  | pStore (a : PReg)
  /-- P.SHL Pd, Pa, #n, OP 0x13 (R144); n = IMM[7:0]. -/
  | pShl (d a : PReg) (n : BitVec 8)
  /-- P.MUL Pd, Pa, Pb, OP 0x14 (R145). -/
  | pMul (d a b : PReg)
  /-- P.MOD Pd, Pa, Pb, OP 0x15 (R146). -/
  | pMod (d a b : PReg)
  /-- P.GEN Pd, #n, OP 0x16 (R147); n = IMM[7:0]. -/
  | pGen (d : PReg) (n : BitVec 8)
  /-- RS.BLOCK #k, OP 0x20 (R175); k = IMM[7:0]. -/
  | rsBlock (k : BitVec 8)
  /-- RS.ALL, OP 0x21 (R176). -/
  | rsAll
  /-- CW.ILV, OP 0x22 (R177). -/
  | cwIlv
  /-- BW.RST, OP 0x30 (R113). -/
  | bwRst
  /-- BW.PUT #n, OP 0x31 (R114); n = IMM[4:0]. -/
  | bwPut (n : BitVec 5)
  /-- BW.BIT #b, OP 0x32 (R115); b = IMM[0]. -/
  | bwBit (b : Bool)
  /-- BW.SEG mode, OP 0x33 (R163); mode = IMM[1:0]. -/
  | bwSeg (mode : SegMode)
  /-- BW.FIN, OP 0x34 (R174). -/
  | bwFin
  /-- MX.CLR, OP 0x40 (R187). -/
  | mxClr
  /-- MX.FND, OP 0x41 (R190). -/
  | mxFnd
  /-- MX.ALN, OP 0x42 (R192). -/
  | mxAln
  /-- MX.TIM, OP 0x43 (R193). -/
  | mxTim
  /-- MX.FMT #m[, T], OP 0x44 (R196); mask = IMM[2:0], trial = IMM[3]. -/
  | mxFmt (m : MaskId) (trial : Bool)
  /-- MX.VER [T], OP 0x45 (R198); trial = IMM[0]. -/
  | mxVer (trial : Bool)
  /-- MX.MAP #m, OP 0x46 (R201); mask = IMM[2:0]. -/
  | mxMap (m : MaskId)
  /-- MX.BUILD #m[, T], OP 0x47 (R202); mask = IMM[2:0], trial = IMM[3]. -/
  | mxBuild (m : MaskId) (trial : Bool)
  /-- MX.PEN, OP 0x48 (R214). -/
  | mxPen
  /-- MX.SEL, OP 0x49 (R215). -/
  | mxSel
  /-- Q.BUILD, OP 0x50 (R227). -/
  | qBuild
  deriving DecidableEq, Repr

end Sys2Proof
end

