-- ==== Sys2Proof/Machine/State.lean ====
section
/-!
DEFINITION. The state of the engine (10_state.md, R21-R43) as plain data, the reasons a step can stop, and the state
after reset (R253).
-/

namespace Sys2Proof.Machine

/-! ## Memories -/

/-- Sparse data by key: (key, value) pairs, keys strictly rising, no entry equal to what an unlisted key reads as. The
operations and the predicate that says so are in Machine/Ops.lean. -/
abbrev Store (α : Type) := List (Nat × α)

/-- A byte memory keyed by its own index: STAGE, ECC or CW (R37, R39). An unlisted index reads 0, its reset value. -/
abbrev Memory := List Host.Cell

/-- One grid row, keyed by column. An unlisted column is unassigned. -/
abbrev GridRow := Store Module

/-- The GRID (R38), keyed by row. An unlisted row has no assigned cell. -/
abbrev Grid := Store GridRow

/-- A polynomial: coefficients "highest-degree first" (R136). -/
abbrev Poly := List Byte

/-! ## Status -/

/-- STATUS.ERR (R232), one name for each code 0..7. Codes 8-15 are never written. -/
inductive ErrCode where
  | none
  | illegalCommand
  | invalidParameter
  | invalidCharacter
  | capacityOverflow
  | fieldArithmeticDomainError
  | resourceOverflow
  | incompleteGrid
  deriving DecidableEq, Repr

/-- The STATUS register (R27). -/
structure Status where
  /-- A command is pending (R22). -/
  busy : Bool
  /-- A command completed without error; sticky, W1C. -/
  done : Bool
  /-- A host write was dropped (R236); sticky, W1C. -/
  drop : Bool
  /-- The error code; sticky, cleared only by reset. -/
  err : ErrCode
  deriving DecidableEq, Repr

/-! ## Inputs -/

/-- What the host does to the engine, one indivisible event each (R61, R66, R69, R99, R251). `bytes` is the width of the
access: the port gives a meaning only to 4 (R66). -/
inductive Input where
  /-- A read of the port. -/
  | read (bytes : Nat) (addr : BitVec 20)
  /-- A write of the port. -/
  | write (bytes : Nat) (addr : BitVec 20) (data : Word)
  /-- The pseudo-instruction WAIT (R99): "repeat `R STATUS` until bit 0 (BUSY) reads 0". -/
  | wait
  /-- `rst_n` falls (R251). -/
  | rstLow
  /-- `rst_n` rises (R251). -/
  | rstHigh
  deriving DecidableEq, Repr

/-! ## State -/

/-- The state of the engine. INVENTORY.md lists every field with its rule. -/
structure State where
  /-- The level of the input `rst_n`: true is high (R61, R251). -/
  rstN : Bool
  /-- MODEL'S OWN (log 1): the host's inputs still to come, oldest first. -/
  inputs : List Input
  /-- The value the last host read returned (R61 `rdata`; log 6). -/
  rdata : Word
  /-- MODEL'S OWN (log 2): how many inputs may still land before the engine performs the pending command (U4). -/
  delay : Nat
  /-- MODEL'S OWN (log 3): how many free values have been drawn. -/
  freeCount : Nat
  /-- CTRL.IE_DONE (R26). -/
  ieDone : Bool
  /-- CTRL.IE_ERR (R26). -/
  ieErr : Bool
  /-- STATUS (R27). -/
  status : Status
  /-- CMD: the last accepted command word; the pending command while BUSY = 1 (R24, R42). -/
  cmd : Word
  /-- ARG0 (R23). -/
  arg0 : Word
  /-- ARG1 (R23). -/
  arg1 : Word
  /-- RESULT (R23). -/
  result : Word
  /-- CMDCNT (R28). -/
  cmdcnt : Word
  /-- ERRINFO0 (R234). -/
  errinfo0 : Word
  /-- ERRINFO1 (R234). -/
  errinfo1 : Word
  /-- ERRCMD (R233). -/
  errcmd : Word
  /-- VERSION (R29). -/
  version : BitVec 6
  /-- ECLEVEL (R30). -/
  eclevel : BitVec 2
  /-- BLKCNT (R31). -/
  blkcnt : BitVec 8
  /-- ALNCNT (R32). -/
  alncnt : BitVec 3
  /-- BITLEN (R36, R112). -/
  bitlen : Word
  /-- CWLEN (R37). -/
  cwlen : Word
  /-- MODCNT: the latched dimension N, 0 with no grid (R38). -/
  modcnt : Word
  /-- MASKSEL (R215). -/
  masksel : BitVec 3
  /-- PENALTY (R214). -/
  penalty : Word
  /-- PEN_A (R210). -/
  penA : Word
  /-- PEN_B (R211). -/
  penB : Word
  /-- PEN_C (R212). -/
  penC : Word
  /-- PEN_D (R213). -/
  penD : Word
  /-- DARKCNT (R214). -/
  darkcnt : Word
  /-- PENTAB[0..7] (R215). -/
  pentab : Vector Word 8
  /-- P0..P7 (R23). PLEN[i] reads the length of P[i]. -/
  p : Vector Poly 8
  /-- BLKTAB[0..127] (R34). -/
  blktab : Vector Word 128
  /-- ALNTAB[0..6] (R35). -/
  alntab : Vector Byte 7
  /-- STAGE (R39). -/
  stage : Memory
  /-- BB (R36): the bits written, bit 0 first. -/
  bb : List Bool
  /-- ECC memory (R37). -/
  ecc : Memory
  /-- CW memory (R37). -/
  cw : Memory
  /-- GRID (R38). -/
  grid : Grid
  deriving DecidableEq, Repr

/-- Why the machine stops with a fault. The spec names no condition that stops the engine: "The step always ends" (R231),
and every error is recorded in STATUS and the error registers (R233). So there is no constructor, and no step faults. -/
inductive Fault where
  deriving DecidableEq, Repr

/-- Why a step has no meaning. -/
inductive Refusal where
  /-- Raised by an arm of `exec` whose command has no meaning yet. Safe: nothing can be proved of a run past it. -/
  | notModelled (mnemonic : String)
  /-- Raised by the port (Machine/Port.lean) on a host access that is not an aligned 32-bit access: "the spec gives it no
  meaning and a model refuses a host program that performs one" (R66, U3; log 7). Safe. -/
  | accessOutsideInterface
  deriving DecidableEq, Repr

/-- The state after reset (R253). -/
def State.reset : State :=
  { rstN := true, inputs := [], rdata := 0#32, delay := 0, freeCount := 0,
    ieDone := false, ieErr := false,
    status := { busy := false, done := false, drop := false, err := .none },
    cmd := 0#32, arg0 := 0#32, arg1 := 0#32, result := 0#32, cmdcnt := 0#32,
    errinfo0 := 0#32, errinfo1 := 0#32, errcmd := 0#32,
    version := 1#6, eclevel := 0b10#2, blkcnt := 0#8, alncnt := 0#3,
    bitlen := 0#32, cwlen := 0#32, modcnt := 0#32, masksel := 0#3,
    penalty := 0#32, penA := 0#32, penB := 0#32, penC := 0#32, penD := 0#32, darkcnt := 0#32,
    pentab := Vector.replicate 8 0#32, p := Vector.replicate 8 [0#8],
    blktab := Vector.replicate 128 0#32, alntab := Vector.replicate 7 0#8,
    stage := [], bb := [], ecc := [], cw := [], grid := [] }

end Sys2Proof.Machine
end

