-- ==== Sys2Proof/Machine/Flags.lean ====
section
/-!
DEFINITION. The flags: STATUS (R27, R41), how each event changes it, the word the host reads, and the interrupt line
(R240). The engine has no other flag: "There are no arithmetic condition codes" (R41).
-/

namespace Sys2Proof.Machine

/-- The numbers of R232. -/
def ErrCode.code : ErrCode → BitVec 4
  | .none => 0#4
  | .illegalCommand => 1#4
  | .invalidParameter => 2#4
  | .invalidCharacter => 3#4
  | .capacityOverflow => 4#4
  | .fieldArithmeticDomainError => 5#4
  | .resourceOverflow => 6#4
  | .incompleteGrid => 7#4

/-- STATUS as the host reads it (R27): BUSY bit 0, DONE bit 1, DROP bit 2, ERR bits 11:8, every other bit 0. -/
def Status.word (st : Status) : Word :=
  (BitVec.ofBool st.busy).setWidth 32 ||| (BitVec.ofBool st.done).setWidth 32 <<< 1
    ||| (BitVec.ofBool st.drop).setWidth 32 <<< 2 ||| st.err.code.setWidth 32 <<< 8

/-- R231, normal end: "STATUS.DONE <- 1 ; ... ; STATUS.BUSY <- 0". -/
def Status.normal (st : Status) : Status := { st with busy := false, done := true }

/-- R231 and R233, error end: ERR takes the code, BUSY falls, "STATUS.DONE is left as it was". -/
def Status.failed (st : Status) (e : ErrCode) : Status := { st with busy := false, err := e }

/-- R231: an accepted CMD write makes BUSY 1. -/
def Status.accepted (st : Status) : Status := { st with busy := true }

/-- R236: a dropped write sets DROP. -/
def Status.dropped (st : Status) : Status := { st with drop := true }

/-- R27: "A write to STATUS clears DONE if wdata[1] = 1 and DROP if wdata[2] = 1 and changes nothing else". -/
def Status.cleared (st : Status) (wdata : Word) : Status :=
  { st with done := st.done && !wdata.getLsbD 1, drop := st.drop && !wdata.getLsbD 2 }

/-- CTRL as the host reads it (R26): SRST reads 0. -/
def State.ctrlWord (s : State) : Word :=
  (BitVec.ofBool s.ieDone).setWidth 32 <<< 1 ||| (BitVec.ofBool s.ieErr).setWidth 32 <<< 2

/-- R240: "irq = (CTRL.IE_DONE and STATUS.DONE) or (CTRL.IE_ERR and STATUS.ERR != 0)". -/
def State.irq (s : State) : Bool := (s.ieDone && s.status.done) || (s.ieErr && s.status.err != .none)

end Sys2Proof.Machine
end

