-- ==== Sys2Proof/Machine/Ops.lean ====
section
/-!
DEFINITION. The operations the commands share: sparse memories and the grid, bits of a value, the errors, the two ends
of a command (R231, R233), and the reset that is the only way back from an error (R242, R252).
-/

namespace Sys2Proof.Machine

/-! ## Sparse memories -/

/-- The value at key `a`; `d` where no entry lists it. -/
def Store.read {α : Type} (d : α) : Store α → Nat → α
  | [], _ => d
  | (k, x) :: rest, a => if k = a then x else Store.read d rest a

/-- Lists `v` at key `a`, in its place in the rising order. -/
def Store.insert {α : Type} : Store α → Nat → α → Store α
  | [], a, v => [(a, v)]
  | (k, x) :: rest, a, v =>
    if k < a then (k, x) :: Store.insert rest a v
    else if k = a then (a, v) :: rest
    else (a, v) :: (k, x) :: rest

/-- Writes `v` at key `a`. Writing the value an unlisted key reads as removes the entry. -/
def Store.write {α : Type} [DecidableEq α] (d : α) (m : Store α) (a : Nat) (v : α) : Store α :=
  if v = d then m.filter (fun e => e.1 ≠ a) else Store.insert m a v

/-- The canonical form: keys strictly rising, and no entry equal to what an unlisted key reads as. -/
def Store.wf {α : Type} [DecidableEq α] (d : α) (m : Store α) : Bool :=
  decide (m.Pairwise (fun x y => x.1 < y.1)) && m.all (fun e => decide (e.2 ≠ d))

/-- The store that reads `f k` at every key `k < n` and the default elsewhere. -/
def Store.ofFn {α : Type} [DecidableEq α] (d : α) (n : Nat) (f : Nat → α) : Store α :=
  ((List.range n).map (fun k => (k, f k))).filter (fun e => e.2 ≠ d)

/-- One byte of STAGE, ECC or CW. -/
def Memory.read (m : Memory) (a : Nat) : Byte := Store.read 0#8 m a

/-- Stores one byte. -/
def Memory.write (m : Memory) (a : Nat) (v : Byte) : Memory := Store.write 0#8 m a v

/-- The canonical form of a byte memory. -/
def Memory.wf (m : Memory) : Bool := Store.wf 0#8 m

/-- The bytes at `off .. off+n-1`. -/
def Memory.readBytes (m : Memory) (off n : Nat) : List Byte := (List.range n).map (fun j => m.read (off + j))

/-- Stores bytes from `off` on, lowest index first. -/
def Memory.writeBytes (m : Memory) (off : Nat) : List Byte → Memory
  | [] => m
  | b :: rest => Memory.writeBytes (m.write off b) (off + 1) rest

/-- The memory whose first bytes are `bytes` and whose every other byte is 0. -/
def Memory.ofBytes (bytes : List Byte) : Memory := Store.ofFn 0#8 bytes.length (fun k => bytes.getD k 0#8)

/-! ## The grid -/

/-- The cell at (row, column) (R11 (d), R38). -/
def Grid.get (g : Grid) (r c : Nat) : Module := Store.read .unassigned (Store.read [] g r) c

/-- Sets one cell. -/
def Grid.set (g : Grid) (r c : Nat) (x : Module) : Grid :=
  Store.write [] g r (Store.write .unassigned (Store.read [] g r) c x)

/-- The canonical form of the grid: canonical rows in canonical order, no row without an assigned cell. -/
def Grid.wf (g : Grid) : Bool := Store.wf [] g && g.all (fun e => Store.wf .unassigned e.2)

/-- The grid with the cells `f r c` for r, c < n and every other cell unassigned. -/
def Grid.ofFn (n : Nat) (f : Nat → Nat → Module) : Grid :=
  Store.ofFn [] n (fun r => Store.ofFn .unassigned n (f r))

/-- The code of a cell (R38): 0 unassigned, 1 light, 2 dark. -/
def moduleCode : Module → BitVec 2
  | .unassigned => 0#2
  | .light => 1#2
  | .dark => 2#2

/-- The cell that an assignment leaves (R185): "2 if dark else 1". -/
def moduleOfDark (dark : Bool) : Module := if dark then .dark else .light

/-- R185 `paint`: unconditional. -/
def Grid.paint (g : Grid) (r c : Nat) (dark : Bool) : Grid := g.set r c (moduleOfDark dark)

/-- R185 `fill`: only an unassigned cell. -/
def Grid.fill (g : Grid) (r c : Nat) (dark : Bool) : Grid :=
  if g.get r c = .unassigned then g.paint r c dark else g

/-- A cell to assign: row, column, dark. -/
abbrev CellWrite := Nat × Nat × Bool

/-- Paints a list of cells in order. -/
def Grid.paintAll (g : Grid) (cells : List CellWrite) : Grid :=
  cells.foldl (fun g x => g.paint x.1 x.2.1 x.2.2) g

/-- Fills a list of cells in order. -/
def Grid.fillAll (g : Grid) (cells : List CellWrite) : Grid :=
  cells.foldl (fun g x => g.fill x.1 x.2.1 x.2.2) g

/-! ## Bits -/

/-- "the low `n` bits of `value`, most-significant first" (R112). -/
def bitsMsbFirst (value n : Nat) : List Bool := (List.range n).map (fun i => value.testBit (n - 1 - i))

/-- The number whose binary digits are `bits`, most significant first. -/
def numberOfBits (bits : List Bool) : Nat := bits.foldl (fun acc b => 2 * acc + b.toNat) 0

/-- R36 `BBbyte(k)`: "bits 8k..8k+7 of BB, MSB first, where a bit at an index >= BB.len reads 0". -/
def bbByte (bb : List Bool) (k : Nat) : Byte :=
  let eight := (bb.drop (8 * k)).take 8
  BitVec.ofNat 8 (numberOfBits (eight ++ List.replicate (8 - eight.length) false))

/-! ## Errors -/

/-- The parameter ids of InvalidParameter (R238). -/
inductive ParamId where
  | version
  | blockTable
  | alnTab
  | grid
  | stageRange
  | blockIndex
  deriving DecidableEq, Repr

/-- R238, code 2: ids 1..6. -/
def ParamId.number : ParamId → Word
  | .version => 1#32
  | .blockTable => 2#32
  | .alnTab => 3#32
  | .grid => 4#32
  | .stageRange => 5#32
  | .blockIndex => 6#32

/-- The resource ids of ResourceOverflow (R238). Id 3 "is never raised" (U7). -/
inductive ResourceId where
  | polynomialLength
  | bitBuffer
  | codewordMemory
  deriving DecidableEq, Repr

/-- R238, code 6: ids 1, 2 and 4. -/
def ResourceId.number : ResourceId → Word
  | .polynomialLength => 1#32
  | .bitBuffer => 2#32
  | .codewordMemory => 4#32

/-- An error E(info0, info1) of a command (R12 `raise`, R232, R234). -/
inductive EngineError where
  | illegalCommand (word : Word)
  | invalidParameter (id : ParamId) (offending : Word)
  | invalidCharacter (value offset : Word)
  | capacityOverflow (required available : Word)
  | fieldArithmeticDomainError (argument : Word)
  | resourceOverflow (id : ResourceId) (needed : Word)
  | incompleteGrid (row column : Word)
  deriving DecidableEq, Repr

/-- R232: the error's code. -/
def EngineError.code : EngineError → ErrCode
  | .illegalCommand _ => .illegalCommand
  | .invalidParameter _ _ => .invalidParameter
  | .invalidCharacter _ _ => .invalidCharacter
  | .capacityOverflow _ _ => .capacityOverflow
  | .fieldArithmeticDomainError _ => .fieldArithmeticDomainError
  | .resourceOverflow _ _ => .resourceOverflow
  | .incompleteGrid _ _ => .incompleteGrid

/-- R234, column ERRINFO0. -/
def EngineError.info0 : EngineError → Word
  | .illegalCommand word => word
  | .invalidParameter id _ => id.number
  | .invalidCharacter value _ => value
  | .capacityOverflow required _ => required
  | .fieldArithmeticDomainError argument => argument
  | .resourceOverflow id _ => id.number
  | .incompleteGrid row _ => row

/-- R234, column ERRINFO1. -/
def EngineError.info1 : EngineError → Word
  | .illegalCommand _ => 0#32
  | .invalidParameter _ offending => offending
  | .invalidCharacter _ offset => offset
  | .capacityOverflow _ available => available
  | .fieldArithmeticDomainError _ => 0#32
  | .resourceOverflow _ needed => needed
  | .incompleteGrid _ column => column

/-- The outcome of a command's pseudocode: the state with its writes made, or the error it raises. -/
abbrev Result := Except EngineError State

/-! ## The ends of a command -/

/-- R231, normal end: DONE set, CMDCNT counts, BUSY falls. -/
def State.normalEnd (s : State) : State :=
  { s with status := s.status.normal, cmdcnt := s.cmdcnt + 1#32, delay := 0 }

/-- TAKING AN ERROR (R233): "STATUS.ERR <- code(E) ; ERRINFO0 <- info0 ; ERRINFO1 <- info1 ; ERRCMD <- w", CMDCNT counts,
BUSY falls, DONE is left as it was (R231). The word w is the pending command, CMD (R42). No program counter is saved, no
mode changes (R241). -/
def State.errorEnd (s : State) (e : EngineError) : State :=
  { s with
    status := s.status.failed e.code, errinfo0 := e.info0, errinfo1 := e.info1, errcmd := s.cmd,
    cmdcnt := s.cmdcnt + 1#32, delay := 0 }

/-- The step of a command other than a composed one: a raised error "changes no register, memory, table or polynomial
register other than the four" (R233). -/
def State.finish (s : State) (r : Result) : Host.Outcome State Fault Refusal :=
  match r with
  | .ok t => .next t.normalEnd
  | .error e => .next (s.errorEnd e)

/-- The step of a composed command (MX.BUILD, MX.SEL, Q.BUILD): after an error "every location in the command's Writes
list holds an unspecified value" (R233). `drawn` is the state with those locations drawn freely. -/
def State.finishComposed (drawn : State) (r : Result) : Host.Outcome State Fault Refusal :=
  match r with
  | .ok t => .next t.normalEnd
  | .error e => .next (drawn.errorEnd e)

/-! ## Free draws after a composed command's error (U2, log 4) -/

/-- Draws MODCNT, GRID and RESULT, the Writes list of MX.BUILD (R202). -/
def State.drawBuild (s : State) : State :=
  let n := s.freeCount
  { s with
    modcnt := Config.freeWord n, result := Config.freeWord (n + 1),
    grid := Grid.ofFn Config.nMax (Config.freeModule n), freeCount := n + 2 }

/-- Draws the Writes list of MX.SEL (R215): PENTAB, MASKSEL, the penalty registers and what MX.BUILD writes. -/
def State.drawSelect (s : State) : State :=
  let n := s.freeCount
  let t := ({ s with freeCount := n + 15 }).drawBuild
  { t with
    pentab := Vector.ofFn (fun m => Config.freeWord (n + m.val)),
    masksel := (Config.freeWord (n + 8)).setWidth 3,
    penA := Config.freeWord (n + 9), penB := Config.freeWord (n + 10), penC := Config.freeWord (n + 11),
    penD := Config.freeWord (n + 12), penalty := Config.freeWord (n + 13), darkcnt := Config.freeWord (n + 14) }

/-- Draws the Writes list of Q.BUILD (R227): BB, BITLEN, ECC, CW, CWLEN and what MX.SEL writes. -/
def State.drawSymbol (s : State) : State :=
  let n := s.freeCount
  let t := ({ s with freeCount := n + 2 }).drawSelect
  { t with
    bb := (Config.freeBits n).take Config.bbBits, bitlen := Config.freeWord n,
    cwlen := Config.freeWord (n + 1),
    ecc := Store.ofFn 0#8 Config.cwMax (Config.freeByte n),
    cw := Store.ofFn 0#8 Config.cwMax (Config.freeByte (n + 1)) }

/-! ## Reset: the return from an error (R242) -/

/-- R251, R252, R253: every piece of the engine's state at its reset value; a pending command is discarded "without being
performed and without counting in CMDCNT". What is not the engine's stays: the pin, the host's inputs, the value the host
last read, and the count of free draws. -/
def State.engineReset (s : State) : State :=
  { State.reset with rstN := s.rstN, inputs := s.inputs, rdata := s.rdata, freeCount := s.freeCount }

end Sys2Proof.Machine
end

