-- ==== Sys2Proof/Machine/Operands.lean ====
section
/-!
DEFINITION. The operand forms: the scalar arguments (R23), the polynomial registers (R149), a range of STAGE (R238 id 5),
the configuration registers with their checks (R172, R186, R187, R192), and the block quantities (R171).
-/

namespace Sys2Proof.Machine

/-! ## Scalars -/

/-- sint32(ARG0) (R10). -/
def State.arg0Signed (s : State) : Int := s.arg0.toInt
/-- sint32(ARG1) (R10). -/
def State.arg1Signed (s : State) : Int := s.arg1.toInt
/-- uint32(ARG0) (R10). -/
def State.arg0Unsigned (s : State) : Nat := s.arg0.toNat
/-- uint32(ARG1) (R10). -/
def State.arg1Unsigned (s : State) : Nat := s.arg1.toNat

/-- RESULT <- a number. -/
def State.setResult (s : State) (n : Nat) : State := { s with result := Word.ofNat n }

/-! ## Polynomial registers -/

/-- P[i]. -/
def State.poly (s : State) (i : PReg) : Poly := s.p[i.val]

/-- P[i] <- q. PLEN[i] is the length of P[i], so it is "updated together with P[D]" (R149). -/
def State.setPoly (s : State) (i : PReg) (q : Poly) : State := { s with p := s.p.set i.val q }

/-- R137 `fit`: "if len(p) > POLY_MAX: raise ResourceOverflow(1, len(p))". -/
def fit (q : Poly) : Except EngineError Poly :=
  if q.length > Config.polyMax then .error (.resourceOverflow .polynomialLength (Word.ofNat q.length)) else .ok q

/-- `P[D] <- fit(q)`. -/
def State.writePoly (s : State) (d : PReg) (q : Poly) : Result := (fit q).map (s.setPoly d)

/-! ## STAGE ranges -/

/-- R142, R143, R163: "if off + n > STAGE_MAX: raise InvalidParameter(5, off)", with the sum taken without wrap. -/
def State.checkStage (s : State) (n : Nat) : Except EngineError Unit :=
  if s.arg0Unsigned + n > Config.stageMax then .error (.invalidParameter .stageRange s.arg0) else .ok ()

/-! ## The bit buffer -/

/-- R112: "if BB.len + n > BB_BITS: raise ResourceOverflow(2, BB.len + n)", then the bits appended and BITLEN written. -/
def State.append (s : State) (bits : List Bool) : Result :=
  let len := s.bb.length + bits.length
  if len > Config.bbBits then .error (.resourceOverflow .bitBuffer (Word.ofNat len))
  else .ok { s with bb := s.bb ++ bits, bitlen := Word.ofNat len }

/-! ## VERSION and the grid -/

/-- R163, R187: "if v < 1 or v > VMAX: raise InvalidParameter(1, v)". -/
def State.checkVersion (s : State) : Except EngineError Nat :=
  let v := s.version.toNat
  if v < 1 ∨ v > Config.vMax then .error (.invalidParameter .version (Word.ofNat v)) else .ok v

/-- R186: "checks `R[MODCNT] != 0` and raises InvalidParameter(4, 0) otherwise"; gives N. -/
def State.checkGrid (s : State) : Except EngineError Nat :=
  if s.modcnt = 0#32 then .error (.invalidParameter .grid 0#32) else .ok s.modcnt.toNat

/-- ALN[0 .. ALNCNT-1], the valid alignment-centre coordinates (R35). -/
def State.centres (s : State) : List Nat := (s.alntab.toList.take s.alncnt.toNat).map (·.toNat)

/-! ## The block table (R171, R172) -/

/-- An RS block descriptor (R34). -/
structure Block where
  /-- Data-codeword count. -/
  dc : Nat
  /-- Total-codeword count. -/
  tc : Nat
  deriving DecidableEq, Repr

/-- R171: "ec_k = tc_k - dc_k". -/
def Block.ec (b : Block) : Nat := b.tc - b.dc

/-- R34: "dc = bits[15:0]" and "tc = bits[31:16]". -/
def blockOfWord (w : Word) : Block := { dc := (w.extractLsb' 0 16).toNat, tc := (w.extractLsb' 16 16).toNat }

/-- The descriptors 0 .. BLKCNT-1 (R34). -/
def State.blocks (s : State) : List Block := (s.blktab.toList.take s.blkcnt.toNat).map blockOfWord

/-- R172: "1 <= dc_k <= tc_k <= POLY_MAX". -/
def Block.valid (b : Block) : Bool := decide (1 ≤ b.dc) && decide (b.dc ≤ b.tc) && decide (b.tc ≤ Config.polyMax)

/-- Sum of tc_k. -/
def totalCodewords (bs : List Block) : Nat := (bs.map (·.tc)).sum
/-- Sum of dc_k. -/
def dataCodewords (bs : List Block) : Nat := (bs.map (·.dc)).sum
/-- Sum of ec_k. -/
def checkCodewords (bs : List Block) : Nat := (bs.map (·.ec)).sum

/-- R171: "totalDataBits = 8 * (sum of dc_k for k < K)". -/
def totalDataBits (bs : List Block) : Nat := 8 * dataCodewords bs

/-- R171: "doff_k = sum of dc_j for j < k". -/
def dataOffset (bs : List Block) (k : Nat) : Nat := dataCodewords (bs.take k)
/-- R171: "eoff_k = sum of ec_j for j < k". -/
def checkOffset (bs : List Block) (k : Nat) : Nat := checkCodewords (bs.take k)

/-- The InvalidParameter checks of R172 `check_blocks`, in its order; gives the descriptors. -/
def State.checkDescriptors (s : State) : Except EngineError (List Block) :=
  if s.blkcnt.toNat = 0 ∨ s.blkcnt.toNat > Config.blkMax then .error (.invalidParameter .blockTable 0xFFFFFFFF#32)
  else match s.blocks.findIdx? (fun b => !b.valid) with
    | some k => .error (.invalidParameter .blockTable (Word.ofNat k))
    | none => .ok s.blocks

/-- The last check of R172: "if sum of tc_k for k < K > CW_MAX: raise ResourceOverflow(4, sum of tc_k)". -/
def checkTotal (bs : List Block) : Except EngineError Unit :=
  if totalCodewords bs > Config.cwMax then
    .error (.resourceOverflow .codewordMemory (Word.ofNat (totalCodewords bs)))
  else .ok ()

/-- R172 `check_blocks`, in its order; gives the descriptors. -/
def State.checkBlocks (s : State) : Except EngineError (List Block) := do
  let bs ← s.checkDescriptors
  checkTotal bs
  .ok bs

/-- Block k's data codewords: "[BBbyte(doff_k + i) for i in 0..dc_k-1]" (R175). -/
def State.blockData (s : State) (bs : List Block) (k : Nat) : List Byte :=
  (List.range ((bs.map (·.dc)).getD k 0)).map (fun i => bbByte s.bb (dataOffset bs k + i))

/-- Block k's correction codewords: ECC[eoff_k .. eoff_k+ec_k-1] (R171, R177). -/
def State.blockEcc (s : State) (bs : List Block) (k : Nat) : List Byte :=
  s.ecc.readBytes (checkOffset bs k) ((bs.map (·.ec)).getD k 0)

end Sys2Proof.Machine
end

