-- ==== Sys2Proof/Machine/BitWriter.lean ====
section
/-!
DEFINITION. The bit writer commands (41_bitwriter.md): BW.RST, BW.PUT, BW.BIT.
-/

namespace Sys2Proof.Machine

/-- R113: "BB.bits <- all 0 ; BB.len <- 0 ; R[BITLEN] <- 0". -/
def bwRstBody (s : State) : Result := .ok { s with bb := [], bitlen := 0#32 }

/-- BW.RST (R113). -/
def execBwRst (s : State) : Host.Outcome State Fault Refusal := s.finish (bwRstBody s)

/-- R114: "append(uint32(R[ARG0]), n)". -/
def bwPutBody (n : BitVec 5) (s : State) : Result := s.append (bitsMsbFirst s.arg0Unsigned n.toNat)

/-- BW.PUT #n (R114). -/
def execBwPut (n : BitVec 5) (s : State) : Host.Outcome State Fault Refusal := s.finish (bwPutBody n s)

/-- R115: "append(b, 1)". -/
def bwBitBody (b : Bool) (s : State) : Result := s.append [b]

/-- BW.BIT #b (R115). -/
def execBwBit (b : Bool) (s : State) : Host.Outcome State Fault Refusal := s.finish (bwBitBody b s)

end Sys2Proof.Machine
end

