-- ==== Sys2Proof/Machine/Assembler.lean ====
section
/-!
DEFINITION. The codeword assembler (45_assembler.md): BW.FIN, RS.BLOCK, RS.ALL, CW.ILV.
-/

namespace Sys2Proof.Machine

/-! ## Terminate and pad (R174) -/

/-- "4-bit terminator (all zero)", when at least four bits are spare. -/
def terminator (cap len : Nat) : List Bool := if cap - len ≥ 4 then List.replicate 4 false else []

/-- "zero bits to the next byte boundary". -/
def boundaryZeros (len : Nat) : List Bool := List.replicate ((8 - len % 8) % 8) false

/-- "alternately with 0xEC then 0x11": `n` pad bytes, the first 0xEC. -/
def padBytes (n : Nat) : List Bool :=
  (List.range n).flatMap (fun k => bitsMsbFirst (if k % 2 = 0 then 0xEC else 0x11) 8)

/-- The bits `bb` terminated and padded to `cap` bits, a multiple of 8. -/
def padded (bb : List Bool) (cap : Nat) : List Bool :=
  let terminated := bb ++ terminator cap bb.length
  let aligned := terminated ++ boundaryZeros terminated.length
  aligned ++ padBytes ((cap - aligned.length) / 8)

/-- R173, R174: check_blocks, the capacity check "BB.len > totalDataBits", then the padding. -/
def bwFinBody (s : State) : Result := do
  let bs ← s.checkBlocks
  let cap := totalDataBits bs
  if s.bb.length > cap then
    .error (.capacityOverflow (Word.ofNat s.bb.length) (Word.ofNat cap))
  else
    let bits := padded s.bb cap
    .ok { s with bb := bits, bitlen := Word.ofNat bits.length }

/-- BW.FIN (R174). -/
def execBwFin (s : State) : Host.Outcome State Fault Refusal := s.finish (bwFinBody s)

/-! ## Reed-Solomon blocks (R175, R176) -/

/-- Block k's correction codewords stored at ECC[eoff_k ..] (R175). -/
def State.storeBlockEcc (s : State) (bs : List Block) (k : Nat) : State :=
  let e := correctionCodewords (s.blockData bs k) ((bs.map (·.ec)).getD k 0)
  { s with ecc := s.ecc.writeBytes (checkOffset bs k) e }

/-- R175: "if k >= R[BLKCNT]: raise InvalidParameter(6, k)". -/
def State.checkBlockIndex (s : State) (k : BitVec 8) : Except EngineError Unit :=
  if k.toNat ≥ s.blkcnt.toNat then .error (.invalidParameter .blockIndex (k.setWidth 32)) else .ok ()

/-- R175: the checks, then the block; RESULT <- ec_k. The checks stand in the order of R235 and D11, parameters before
run-time errors: the table's parameters (R172), the block index, the sum of tc. DEDUCED (log 19): R175 lists the sum before
the index, and 90_conflicts.md does not name the point; they differ where both fail. -/
def rsBlockBody (k : BitVec 8) (s : State) : Result := do
  let bs ← s.checkDescriptors
  s.checkBlockIndex k
  checkTotal bs
  .ok ((s.storeBlockEcc bs k.toNat).setResult ((bs.map (·.ec)).getD k.toNat 0))

/-- RS.BLOCK #k (R175). -/
def execRsBlock (k : BitVec 8) (s : State) : Host.Outcome State Fault Refusal := s.finish (rsBlockBody k s)

/-- R176: the body of RS.BLOCK #k for each k; "R[RESULT] <- sum of ec_k". -/
def rsAllBody (s : State) : Result := do
  let bs ← s.checkBlocks
  .ok (((List.range bs.length).foldl (fun t k => t.storeBlockEcc bs k) s).setResult (checkCodewords bs))

/-- RS.ALL (R176). -/
def execRsAll (s : State) : Host.Outcome State Fault Refusal := s.finish (rsAllBody s)

/-! ## Interleave (R177) -/

/-- "column-major (position 0 of every block in block order, then position 1 of every block that has one, …)". -/
def interleave (parts : List (List Byte)) : List Byte :=
  let height := (parts.map (·.length)).foldl max 0
  (List.range height).flatMap (fun i => parts.filterMap (fun part => part[i]?))

/-- The final byte stream: data codewords interleaved, then correction codewords "interleaved the same way". -/
def State.codewordStream (s : State) (bs : List Block) : List Byte :=
  interleave ((List.range bs.length).map (s.blockData bs)) ++ interleave ((List.range bs.length).map (s.blockEcc bs))

/-- R177: CW <- the stream, every later byte 0; "R[CWLEN] <- p". -/
def cwIlvBody (s : State) : Result := do
  let bs ← s.checkBlocks
  let stream := s.codewordStream bs
  .ok { s with cw := Memory.ofBytes stream, cwlen := Word.ofNat stream.length }

/-- CW.ILV (R177). -/
def execCwIlv (s : State) : Host.Outcome State Fault Refusal := s.finish (cwIlvBody s)

end Sys2Proof.Machine
end

