-- ==== Sys2Proof/Machine/Matrix.lean ====
section
/-!
DEFINITION. The matrix layout commands (46_matrix.md): MX.CLR, MX.FND, MX.ALN, MX.TIM, MX.FMT, MX.VER, MX.MAP, MX.BUILD.
A layout step is a list of cell writes applied to the grid; `paint` and `fill` are those of R185.
-/

namespace Sys2Proof.Machine

/-- The integers `lo .. lo+n-1`. -/
def offsets (lo : Int) (n : Nat) : List Int := (List.range n).map (fun k => lo + (k : Int))

/-- All pairs of two lists, the first list outermost. -/
def pairs {α β : Type} (xs : List α) (ys : List β) : List (α × β) := xs.flatMap (fun x => ys.map (fun y => (x, y)))

/-! ## Clear (R187) -/

/-- R187: "R[MODCNT] <- 4*v + 17" and every cell unassigned. -/
def mxClrBody (s : State) : Result := do
  let v ← s.checkVersion
  .ok { s with modcnt := Word.ofNat (4 * v + 17), grid := [] }

/-- MX.CLR (R187). -/
def execMxClr (s : State) : Host.Outcome State Fault Refusal := s.finish (mxClrBody s)

/-! ## Finder patterns (R188, R190) -/

/-- R188 `finder_dark`. -/
def finderDark (dr dc : Int) : Bool :=
  (decide (0 ≤ dr ∧ dr ≤ 6) && (dc == 0 || dc == 6)) || (decide (0 ≤ dc ∧ dc ≤ 6) && (dr == 0 || dr == 6))
    || (decide (2 ≤ dr ∧ dr ≤ 4) && decide (2 ≤ dc ∧ dc ≤ 4))

/-- R190: "[(0, 0), (N-7, 0), (0, N-7)] -- top-left, bottom-left, top-right". -/
def finderCorners (n : Nat) : List (Int × Int) := [(0, 0), ((n : Int) - 7, 0), (0, (n : Int) - 7)]

/-- R190: offsets -1..7 of each corner, "cells outside the grid are skipped". -/
def finderCells (n : Nat) : List CellWrite :=
  (finderCorners n).flatMap fun corner =>
    (pairs (offsets (-1) 9) (offsets (-1) 9)).filterMap fun (dr, dc) =>
      let r := corner.1 + dr
      let c := corner.2 + dc
      if 0 ≤ r ∧ r < n ∧ 0 ≤ c ∧ c < n then some (r.toNat, c.toNat, finderDark dr dc) else none

/-- R190: paint the three finder patterns. -/
def mxFndBody (s : State) : Result := do
  let n ← s.checkGrid
  .ok { s with grid := s.grid.paintAll (finderCells n) }

/-- MX.FND (R190). -/
def execMxFnd (s : State) : Host.Outcome State Fault Refusal := s.finish (mxFndBody s)

/-! ## Alignment patterns (R191, R192) -/

/-- R191 `align_dark`. -/
def alignDark (dr dc : Int) : Bool := dr == -2 || dr == 2 || dc == -2 || dc == 2 || (dr == 0 && dc == 0)

/-- R192: the 5x5 square around a centre. -/
def alignCells (pr pc : Nat) : List CellWrite :=
  (pairs (offsets (-2) 5) (offsets (-2) 5)).map fun (dr, dc) =>
    (((pr : Int) + dr).toNat, ((pc : Int) + dc).toNat, alignDark dr dc)

/-- R192: a pair whose centre is already assigned is skipped. -/
def Grid.paintAlignment (g : Grid) (centre : Nat × Nat) : Grid :=
  if g.get centre.1 centre.2 ≠ .unassigned then g else g.paintAll (alignCells centre.1 centre.2)

/-- R192: "if not (2 <= ALN[i] <= N-3): raise InvalidParameter(3, i)", the lowest i. -/
def badCentre (n : Nat) (centres : List Nat) : Option Nat :=
  centres.findIdx? (fun a => !(decide (2 ≤ a) && decide ((a : Int) ≤ (n : Int) - 3)))

/-- R192: all entries are checked, then the pairs are painted in row-major order of (i, j). -/
def mxAlnBody (s : State) : Result := do
  let n ← s.checkGrid
  match badCentre n s.centres with
  | some i => .error (.invalidParameter .alnTab (Word.ofNat i))
  | none => .ok { s with grid := (pairs s.centres s.centres).foldl Grid.paintAlignment s.grid }

/-- MX.ALN (R192). -/
def execMxAln (s : State) : Host.Outcome State Fault Refusal := s.finish (mxAlnBody s)

/-! ## Timing patterns (R193) -/

/-- R193: "fill(k, 6, k mod 2 = 0)" and "fill(6, k, k mod 2 = 0)" for k in 0..N-1. -/
def timingCells (n : Nat) : List CellWrite :=
  (List.range n).flatMap fun k => [(k, 6, k % 2 == 0), (6, k, k % 2 == 0)]

/-- R193: fill the timing patterns. -/
def mxTimBody (s : State) : Result := do
  let n ← s.checkGrid
  .ok { s with grid := s.grid.fillAll (timingCells n) }

/-- MX.TIM (R193). -/
def execMxTim (s : State) : Host.Outcome State Fault Refusal := s.finish (mxTimBody s)

/-! ## Format information (R194-R196) -/

/-- R194 `bitlen`, with bitlen(0) = 0. -/
def bitLength (x : Nat) : Nat := if x = 0 then 0 else x.log2 + 1

/-- R194 `bch_rem`: "while bitlen(x) >= bitlen(g): x <- x ^ (g << (bitlen(x) - bitlen(g)))". Each pass clears the top
bit, so `fuel` = bitlen of the first x suffices. -/
def bchLoop : Nat → Nat → Nat → Nat
  | 0, x, _ => x
  | fuel + 1, x, g =>
    if bitLength x ≥ bitLength g then bchLoop fuel (x ^^^ (g <<< (bitLength x - bitLength g))) g else x

/-- R194: the "remainder of carry-less division". -/
def bchRem (x g : Nat) : Nat := bchLoop (bitLength x) x g

/-- R194 `format_bits(e, m)`, with d = (e << 3) | m. -/
def formatBits (e : BitVec 2) (m : MaskId) : Nat :=
  let d := 8 * e.toNat + m.val
  ((d <<< 10) ||| bchRem (d <<< 10) 0x537) ^^^ 0x5412

/-- R195, the vertical copy (column 8). -/
def formatVertical (n i : Nat) : Nat × Nat :=
  if i ≤ 5 then (i, 8) else if i = 6 then (7, 8) else if i = 7 then (8, 8) else if i = 8 then (n - 7, 8)
  else (n + i - 15, 8)

/-- R195, the horizontal copy (row 8). -/
def formatHorizontal (n i : Nat) : Nat × Nat :=
  if i ≤ 5 then (8, n - 1 - i) else if i = 6 then (8, n - 7) else if i = 7 then (8, n - 8) else if i = 8 then (8, 7)
  else (8, 14 - i)

/-- R196: the thirty format cells, light in trial mode, then the dark module at (N-8, 8). -/
def formatCells (n w : Nat) (trial : Bool) : List CellWrite :=
  ((List.range 15).flatMap fun i =>
    let b := !trial && w.testBit i
    [((formatVertical n i).1, (formatVertical n i).2, b), ((formatHorizontal n i).1, (formatHorizontal n i).2, b)])
    ++ [(n - 8, 8, true)]

/-- R196: paint the format information and the dark module. -/
def mxFmtBody (m : MaskId) (trial : Bool) (s : State) : Result := do
  let n ← s.checkGrid
  .ok { s with grid := s.grid.paintAll (formatCells n (formatBits s.eclevel m) trial) }

/-- MX.FMT #m[, T] (R196). -/
def execMxFmt (m : MaskId) (trial : Bool) (s : State) : Host.Outcome State Fault Refusal := s.finish (mxFmtBody m trial s)

/-! ## Version information (R197, R198) -/

/-- R186: "v = (N - 17) / 4 (the latched version)". -/
def latchedVersion (n : Nat) : Nat := (n - 17) / 4

/-- R197 `version_bits(v)`. -/
def versionBits (v : Nat) : Nat := (v <<< 12) ||| bchRem (v <<< 12) 0x1F25

/-- R197: bit i goes to (i div 3, N-11 + i mod 3) and to (N-11 + i mod 3, i div 3). -/
def versionCells (n w : Nat) (trial : Bool) : List CellWrite :=
  (List.range 18).flatMap fun i =>
    let b := !trial && w.testBit i
    [(i / 3, n - 11 + i % 3, b), (n - 11 + i % 3, i / 3, b)]

/-- R198: "if v < 7: (no effect)", else paint the two version blocks. -/
def mxVerBody (trial : Bool) (s : State) : Result := do
  let n ← s.checkGrid
  let v := latchedVersion n
  if v < 7 then .ok s
  else .ok { s with grid := s.grid.paintAll (versionCells n (versionBits v) trial) }

/-- MX.VER [T] (R198). -/
def execMxVer (trial : Bool) (s : State) : Host.Outcome State Fault Refusal := s.finish (mxVerBody trial s)

/-! ## Masks and data placement (R199-R201) -/

/-- R199: when the module at row i, column j is flipped. -/
def maskFlips (m : MaskId) (i j : Nat) : Bool :=
  match m with
  | 0 => (i + j) % 2 == 0
  | 1 => i % 2 == 0
  | 2 => j % 3 == 0
  | 3 => (i + j) % 3 == 0
  | 4 => (i / 2 + j / 3) % 2 == 0
  | 5 => (i * j) % 2 + (i * j) % 3 == 0
  | 6 => ((i * j) % 2 + (i * j) % 3) % 2 == 0
  | 7 => ((i * j) % 3 + (i + j) % 2) % 2 == 0

/-- R200: the right columns of the pairs, "while col > 0: if col = 6: col <- 5 ... col <- col - 2". -/
def pathColumns : Nat → Nat → List Nat
  | 0, _ => []
  | fuel + 1, col =>
    if col = 0 then []
    else
      let right := if col = 6 then 5 else col
      right :: pathColumns fuel (right - 2)

/-- R200: the rows of the pair numbered `p`: the first pair goes up from the bottom row, the direction flips each pair. -/
def pathRows (n p : Nat) : List Nat := if p % 2 = 0 then (List.range n).reverse else List.range n

/-- R200 `path(N)`: for each pair of columns, at each row "right column, then left". -/
def path (n : Nat) : List (Nat × Nat) :=
  (pathColumns n (n - 1)).zipIdx.flatMap fun (col, p) =>
    (pathRows n p).flatMap fun row => [(row, col), (row, col - 1)]

/-- R201: stream bit `b`, "(CW[b div 8] >> (7 - b mod 8)) & 1", 0 once the stream is exhausted. -/
def State.streamBit (s : State) (b : Nat) : Bool :=
  decide (b < 8 * s.cwlen.toNat) && (s.cw.read (b / 8)).getLsbD (7 - b % 8)

/-- R201: the cells MX.MAP assigns, in visiting order: the still-unassigned cells of the path. The path visits no cell
twice (R200), so a cell is unassigned when it is visited exactly when it is unassigned before the command (log 13). -/
def dataCells (n : Nat) (g : Grid) : List (Nat × Nat) := (path n).filter (fun rc => g.get rc.1 rc.2 = .unassigned)

/-- R201: the b-th data cell takes stream bit b, flipped by the mask. -/
def State.mapCells (s : State) (m : MaskId) (n : Nat) : List CellWrite :=
  (dataCells n s.grid).zipIdx.map fun ((r, c), b) => (r, c, xor (s.streamBit b) (maskFlips m r c))

/-- R201: place the codeword stream; "R[RESULT] <- b -- number of data modules". -/
def mxMapBody (m : MaskId) (s : State) : Result := do
  let n ← s.checkGrid
  .ok ({ s with grid := s.grid.paintAll (s.mapCells m n) }.setResult (dataCells n s.grid).length)

/-- MX.MAP #m (R201). -/
def execMxMap (m : MaskId) (s : State) : Host.Outcome State Fault Refusal := s.finish (mxMapBody m s)

/-! ## Full build (R202) -/

/-- R202: "MX.CLR ; MX.FND ; MX.ALN ; MX.TIM ; MX.FMT #m[,T] ; MX.VER [T] ; MX.MAP #m", a failing step stops the build. -/
def mxBuildBody (m : MaskId) (trial : Bool) (s : State) : Result := do
  let s1 ← mxClrBody s
  let s2 ← mxFndBody s1
  let s3 ← mxAlnBody s2
  let s4 ← mxTimBody s3
  let s5 ← mxFmtBody m trial s4
  let s6 ← mxVerBody trial s5
  mxMapBody m s6

/-- MX.BUILD #m[, T] (R202). -/
def execMxBuild (m : MaskId) (trial : Bool) (s : State) : Host.Outcome State Fault Refusal :=
  State.finishComposed s.drawBuild (mxBuildBody m trial s)

end Sys2Proof.Machine
end

