-- ==== Sys2Proof/Machine/Mask.lean ====
section
/-!
DEFINITION. Penalty evaluation and mask selection (47_mask.md): the four penalty rules, MX.PEN, MX.SEL.
-/

namespace Sys2Proof.Machine

/-! ## Lines -/

/-- "`dark(r, c)` is true when GRID[r][c] = 2". -/
def Grid.isDark (g : Grid) (r c : Nat) : Bool := g.get r c = .dark

/-- The N rows, each "left to right", true for dark. -/
def Grid.rows (g : Grid) (n : Nat) : List (List Bool) :=
  (List.range n).map fun r => (List.range n).map fun c => g.isDark r c

/-- The N columns, each "top to bottom". -/
def Grid.columns (g : Grid) (n : Nat) : List (List Bool) :=
  (List.range n).map fun c => (List.range n).map fun r => g.isDark r c

/-- The 2N lines. -/
def Grid.lines (g : Grid) (n : Nat) : List (List Bool) := g.rows n ++ g.columns n

/-! ## Rule A (R210) -/

/-- The lengths of the maximal runs of a line that continues a run of `k` cells of colour `x`. -/
def runsFrom (x : Bool) (k : Nat) : List Bool → List Nat
  | [] => [k]
  | y :: rest => if y = x then runsFrom x (k + 1) rest else k :: runsFrom y 1 rest

/-- The lengths of the maximal runs of equal cells of a line. -/
def runLengths : List Bool → List Nat
  | [] => []
  | x :: rest => runsFrom x 1 rest

/-- "3 + (L - 5)" for a run of L >= 5. -/
def runScore (l : Nat) : Nat := if l ≥ 5 then 3 + (l - 5) else 0

/-- penA of some lines. -/
def penaltyA (lines : List (List Bool)) : Nat := (lines.map fun line => ((runLengths line).map runScore).sum).sum

/-! ## Rule B (R211) -/

/-- The 2x2 blocks of one colour between two adjacent rows. -/
def uniformBlocks : List Bool → List Bool → Nat
  | a :: b :: upper, c :: d :: lower =>
    (if a = b ∧ a = c ∧ a = d then 1 else 0) + uniformBlocks (b :: upper) (d :: lower)
  | _, _ => 0

/-- The 2x2 blocks of one colour of a grid given by its rows. -/
def uniformBlocksOfRows : List (List Bool) → Nat
  | upper :: lower :: rest => uniformBlocks upper lower + uniformBlocksOfRows (lower :: rest)
  | _ => 0

/-- penB: 3 for each block. -/
def penaltyB (rows : List (List Bool)) : Nat := 3 * uniformBlocksOfRows rows

/-! ## Rule C (R212) -/

/-- "the 7 cells dark, light, dark, dark, dark, light, dark". -/
def finderSequence : List Bool := [true, false, true, true, true, false, true]

/-- A line between four light cells on either side: "A cell position outside 0..N-1 counts as light". -/
def withMargins (line : List Bool) : List Bool := List.replicate 4 false ++ line ++ List.replicate 4 false

/-- Fifteen cells: four of margin, the sequence, four of margin, with one margin all light. -/
def isFinderWindow (w : List Bool) : Bool :=
  decide (15 ≤ w.length) && ((w.drop 4).take 7 == finderSequence)
    && ((w.take 4).all (! ·) || ((w.drop 11).take 4).all (! ·))

/-- The windows that begin at each position of a list. -/
def countWindows : List Bool → Nat
  | [] => 0
  | x :: rest => (if isFinderWindow (x :: rest) then 1 else 0) + countWindows rest

/-- penC: 40 for each occurrence on a line. -/
def penaltyC (lines : List (List Bool)) : Nat := 40 * (lines.map fun line => countWindows (withMargins line)).sum

/-! ## Rule D (R213) -/

/-- The number of dark cells. -/
def darkCount (rows : List (List Bool)) : Nat := (rows.map (·.count true)).sum

/-- "penD = 10 * floor( |100*k - 50*T| / (5*T) )". -/
def penaltyD (k t : Nat) : Nat := 10 * (((100 * k : Int) - 50 * t).natAbs / (5 * t))

/-- The four parts and the dark count of a grid (R214, R215). -/
structure Score where
  a : Nat
  b : Nat
  c : Nat
  d : Nat
  dark : Nat
  deriving DecidableEq, Repr

/-- R213: "The penalty total is penA + penB + penC + penD". -/
def Score.total (x : Score) : Nat := x.a + x.b + x.c + x.d

/-- The score of a grid of dimension n (R210-R213). -/
def Grid.score (g : Grid) (n : Nat) : Score :=
  let rows := g.rows n
  let lines := g.lines n
  let k := darkCount rows
  { a := penaltyA lines, b := penaltyB rows, c := penaltyC lines, d := penaltyD k (n * n), dark := k }

/-- PEN_A..PEN_D, PENALTY and DARKCNT <- a score. -/
def State.setScore (s : State) (x : Score) : State :=
  { s with
    penA := Word.ofNat x.a, penB := Word.ofNat x.b, penC := Word.ofNat x.c, penD := Word.ofNat x.d,
    penalty := Word.ofNat x.total, darkcnt := Word.ofNat x.dark }

/-! ## MX.PEN (R214) -/

/-- The first unassigned cell in row-major order. -/
def Grid.firstUnassigned (g : Grid) (n : Nat) : Option (Nat × Nat) :=
  (pairs (List.range n) (List.range n)).find? (fun rc => g.get rc.1 rc.2 = .unassigned)

/-- R214: the grid check, IncompleteGrid of the first unassigned cell, then the score. -/
def mxPenBody (s : State) : Result := do
  let n ← s.checkGrid
  match s.grid.firstUnassigned n with
  | some (r, c) => .error (.incompleteGrid (Word.ofNat r) (Word.ofNat c))
  | none => .ok (s.setScore (s.grid.score n))

/-- MX.PEN (R214). -/
def execMxPen (s : State) : Host.Outcome State Fault Refusal := s.finish (mxPenBody s)

/-! ## MX.SEL (R215) -/

/-- The eight masks in order. -/
def allMasks : List MaskId := [0, 1, 2, 3, 4, 5, 6, 7]

/-- R215: the score of the trial build with mask m. -/
def trialScore (s : State) (m : MaskId) : Except EngineError Score := do
  let t ← mxBuildBody m true s
  .ok (t.grid.score t.modcnt.toNat)

/-- R215: "the least m with s[m].total = min over m of s[m].total", among masks given with their scores. -/
def bestMask : MaskId × Score → List (MaskId × Score) → MaskId × Score
  | best, [] => best
  | best, x :: rest => bestMask (if x.2.total < best.2.total then x else best) rest

/-- R215: eight trial builds, the lowest total (ties keep the lowest index), the non-trial rebuild, and the registers. -/
def mxSelBody (s : State) : Result := do
  let s0 ← trialScore s 0
  let s1 ← trialScore s 1
  let s2 ← trialScore s 2
  let s3 ← trialScore s 3
  let s4 ← trialScore s 4
  let s5 ← trialScore s 5
  let s6 ← trialScore s 6
  let s7 ← trialScore s 7
  let best := bestMask (0, s0) [(1, s1), (2, s2), (3, s3), (4, s4), (5, s5), (6, s6), (7, s7)]
  let t ← mxBuildBody best.1 false s
  let totals := #v[s0, s1, s2, s3, s4, s5, s6, s7].map (fun x => Word.ofNat x.total)
  .ok ({ t with pentab := totals, masksel := BitVec.ofFin (w := 3) best.1 }.setScore best.2)

/-- MX.SEL (R215). -/
def execMxSel (s : State) : Host.Outcome State Fault Refusal := State.finishComposed s.drawSelect (mxSelBody s)

end Sys2Proof.Machine
end

