-- ==== Sys2Proof/Machine/Control.lean ====
section
/-!
DEFINITION. The control commands (48_control.md): NOP and the whole-symbol build Q.BUILD.
-/

namespace Sys2Proof.Machine

/-- R226: "(no effect)". -/
def nopBody (s : State) : Result := .ok s

/-- NOP (R226). -/
def execNop (s : State) : Host.Outcome State Fault Refusal := s.finish (nopBody s)

/-- R227: "BW.FIN ; RS.ALL ; CW.ILV ; MX.SEL". -/
def qBuildBody (s : State) : Result := do
  let s1 ← bwFinBody s
  let s2 ← rsAllBody s1
  let s3 ← cwIlvBody s2
  mxSelBody s3

/-- Q.BUILD (R227). -/
def execQBuild (s : State) : Host.Outcome State Fault Refusal := State.finishComposed s.drawSymbol (qBuildBody s)

end Sys2Proof.Machine
end

