-- ==== Sys2Proof/Machine/Gf.lean ====
section
/-!
DEFINITION. The GF(256) commands (42_gf.md): GF.EXP, GF.LOG, GF.MUL.
-/

namespace Sys2Proof.Machine

/-- R126: "R[RESULT] <- zext_32(gexp(sint32(R[ARG0])))". -/
def gfExpBody (s : State) : Result := .ok (s.setResult (gexp s.arg0Signed).toNat)

/-- GF.EXP (R126). -/
def execGfExp (s : State) : Host.Outcome State Fault Refusal := s.finish (gfExpBody s)

/-- R127: "FieldArithmeticDomainError(ARG0, 0) when x < 1 or x > 255", else RESULT <- glog(x). -/
def gfLogBody (s : State) : Result :=
  if s.arg0Signed < 1 ∨ s.arg0Signed > 255 then .error (.fieldArithmeticDomainError s.arg0)
  else .ok (s.setResult (glog (s.arg0.setWidth 8)))

/-- GF.LOG (R127). -/
def execGfLog (s : State) : Host.Outcome State Fault Refusal := s.finish (gfLogBody s)

/-- R128: an operand outside 0..255 raises FieldArithmeticDomainError, "a is checked first". -/
def gfMulBody (s : State) : Result :=
  if s.arg0Signed < 0 ∨ s.arg0Signed > 255 then .error (.fieldArithmeticDomainError s.arg0)
  else if s.arg1Signed < 0 ∨ s.arg1Signed > 255 then .error (.fieldArithmeticDomainError s.arg1)
  else .ok (s.setResult (gmul (s.arg0.setWidth 8) (s.arg1.setWidth 8)).toNat)

/-- GF.MUL (R128). -/
def execGfMul (s : State) : Host.Outcome State Fault Refusal := s.finish (gfMulBody s)

end Sys2Proof.Machine
end

