-- ==== Sys2Proof/Machine/Polynomial.lean ====
section
/-!
DEFINITION. The polynomial commands (43_poly.md): P.CLR, P.LOAD, P.STORE, P.SHL, P.MUL, P.MOD, P.GEN. Sources are read
from the state before the command, so the destination may be a source (R149).
-/

namespace Sys2Proof.Machine

/-- R141: "P[D] <- [0] ; R[PLEN[D]] <- 1". -/
def pClrBody (d : PReg) (s : State) : Result := .ok (s.setPoly d [0#8])

/-- P.CLR Pd (R141). -/
def execPClr (d : PReg) (s : State) : Host.Outcome State Fault Refusal := s.finish (pClrBody d s)

/-- R142: "P[D] <- fit(norm(STAGE[off .. off+len-1]))" after the range check. -/
def pLoadBody (d : PReg) (len : BitVec 9) (s : State) : Result := do
  s.checkStage len.toNat
  s.writePoly d (norm (s.stage.readBytes s.arg0Unsigned len.toNat))

/-- P.LOAD Pd, #len (R142). -/
def execPLoad (d : PReg) (len : BitVec 9) (s : State) : Host.Outcome State Fault Refusal := s.finish (pLoadBody d len s)

/-- R143: "for j in 0..len(p)-1: STAGE[off + j] <- p[j]" and RESULT <- len(p), after the range check. -/
def pStoreBody (a : PReg) (s : State) : Result := do
  s.checkStage (s.poly a).length
  .ok ({ s with stage := s.stage.writeBytes s.arg0Unsigned (s.poly a) }.setResult (s.poly a).length)

/-- P.STORE Pa (R143). -/
def execPStore (a : PReg) (s : State) : Host.Outcome State Fault Refusal := s.finish (pStoreBody a s)

/-- R144: "P[D] <- fit(q)" for q the shifted polynomial. -/
def pShlBody (d a : PReg) (n : BitVec 8) (s : State) : Result := s.writePoly d (shiftLeft (s.poly a) n.toNat)

/-- P.SHL Pd, Pa, #n (R144). -/
def execPShl (d a : PReg) (n : BitVec 8) (s : State) : Host.Outcome State Fault Refusal := s.finish (pShlBody d a n s)

/-- R145: "P[D] <- fit(pmul(P[A], P[B]))". -/
def pMulBody (d a b : PReg) (s : State) : Result := s.writePoly d (pmul (s.poly a) (s.poly b))

/-- P.MUL Pd, Pa, Pb (R145). -/
def execPMul (d a b : PReg) (s : State) : Host.Outcome State Fault Refusal := s.finish (pMulBody d a b s)

/-- R146: "FieldArithmeticDomainError(0, 0) when P[B] = [0]", else P[D] <- pmod(P[A], P[B]). -/
def pModBody (d a b : PReg) (s : State) : Result :=
  if s.poly b = [0#8] then .error (.fieldArithmeticDomainError 0#32)
  else .ok (s.setPoly d (pmod (s.poly a) (s.poly b)))

/-- P.MOD Pd, Pa, Pb (R146). -/
def execPMod (d a b : PReg) (s : State) : Host.Outcome State Fault Refusal := s.finish (pModBody d a b s)

/-- R147: "P[D] <- pgen(n)". -/
def pGenBody (d : PReg) (n : BitVec 8) (s : State) : Result := .ok (s.setPoly d (pgen n.toNat))

/-- P.GEN Pd, #n (R147). -/
def execPGen (d : PReg) (n : BitVec 8) (s : State) : Host.Outcome State Fault Refusal := s.finish (pGenBody d n s)

end Sys2Proof.Machine
end

