-- ==== Sys2Proof/Machine/Segments.lean ====
section
/-!
DEFINITION. The segment packing command BW.SEG (44_segments.md): mode indicator, count indicator and payload of a run of
STAGE bytes.
-/

namespace Sys2Proof.Machine

/-- A field to append: value and width (R12 `field`). -/
abbrev BitField := Nat × Nat

/-- The bits of fields, in order, each MSB first (R112). -/
def bitsOfFields (fields : List BitField) : List Bool := fields.flatMap (fun f => bitsMsbFirst f.1 f.2)

/-- R157: the 4-bit mode indicator. -/
def modeIndicator : SegMode → Nat
  | .numeric => 0b0001
  | .alphanumeric => 0b0010
  | .byte => 0b0100
  | .kanji => 0b1000

/-- R158 `W(mode, v)`: the count-indicator width. -/
def countWidth (mode : SegMode) (v : Nat) : Nat :=
  match mode with
  | .numeric => if v ≤ 9 then 10 else if v ≤ 26 then 12 else 14
  | .alphanumeric => if v ≤ 9 then 9 else if v ≤ 26 then 11 else 13
  | .byte => if v ≤ 9 then 8 else 16
  | .kanji => if v ≤ 9 then 8 else if v ≤ 26 then 10 else 12

/-! ## Numeric (R159) -/

/-- "Valid bytes: 0x30..0x39". -/
def isDigit (b : Byte) : Bool := decide (0x30 ≤ b.toNat) && decide (b.toNat ≤ 0x39)

/-- "digit value d(c) = c - 0x30". -/
def digitValue (b : Byte) : Nat := b.toNat - 0x30

/-- Groups of 3 in 10 bits, a remainder of 2 in 7 bits, of 1 in 4 bits. -/
def numericPayload : List Byte → List BitField
  | a :: b :: c :: rest => (100 * digitValue a + 10 * digitValue b + digitValue c, 10) :: numericPayload rest
  | [a, b] => [(10 * digitValue a + digitValue b, 7)]
  | [a] => [(digitValue a, 4)]
  | [] => []

/-! ## AlphaNumeric (R160) -/

/-- The code of a byte of the 45-symbol alphabet. -/
def alnumCode (b : Byte) : Option Nat :=
  let n := b.toNat
  if 0x30 ≤ n ∧ n ≤ 0x39 then some (n - 0x30)
  else if 0x41 ≤ n ∧ n ≤ 0x5A then some (n - 0x37)
  else match n with
    | 0x20 => some 36
    | 0x24 => some 37
    | 0x25 => some 38
    | 0x2A => some 39
    | 0x2B => some 40
    | 0x2D => some 41
    | 0x2E => some 42
    | 0x2F => some 43
    | 0x3A => some 44
    | _ => none

/-- The code of a valid byte; only valid bytes are packed. -/
def alnumValue (b : Byte) : Nat := (alnumCode b).getD 0

/-- Pairs in 11 bits, a trailing single character in 6 bits. -/
def alnumPayload : List Byte → List BitField
  | a :: b :: rest => (45 * alnumValue a + alnumValue b, 11) :: alnumPayload rest
  | [a] => [(alnumValue a, 6)]
  | [] => []

/-! ## Byte (R161) -/

/-- Eight bits for each byte. -/
def bytePayload (bytes : List Byte) : List BitField := bytes.map (fun b => (b.toNat, 8))

/-! ## Kanji (R162) -/

/-- A byte pair as "a big-endian 16-bit value". -/
def pairValue (a b : Byte) : Nat := 256 * a.toNat + b.toNat

/-- "0x8140 <= c <= 0x9FFC or 0xE040 <= c <= 0xEBBF". -/
def isKanjiPair (c : Nat) : Bool :=
  (decide (0x8140 ≤ c) && decide (c ≤ 0x9FFC)) || (decide (0xE040 ≤ c) && decide (c ≤ 0xEBBF))

/-- "((c >> 8) & 0xFF) * 0xC0 + (c & 0xFF)" of the value after the subtraction. -/
def kanjiValue (c : Nat) : Nat :=
  let d := if 0x8140 ≤ c ∧ c ≤ 0x9FFC then c - 0x8140 else c - 0xC140
  (d / 256 % 256) * 0xC0 + d % 256

/-- Thirteen bits for each pair. -/
def kanjiPayload : List Byte → List BitField
  | a :: b :: rest => (kanjiValue (pairValue a b), 13) :: kanjiPayload rest
  | _ => []

/-! ## Validation: "lowest offset first" (R163) -/

/-- The first byte that fails the test, with its STAGE offset. -/
def firstInvalidByte (ok : Byte → Bool) (off : Nat) : List Byte → Option EngineError
  | [] => none
  | b :: rest =>
    if ok b then firstInvalidByte ok (off + 1) rest
    else some (.invalidCharacter (b.setWidth 32) (Word.ofNat off))

/-- The first pair outside both ranges, else a trailing unpaired byte. -/
def firstInvalidPair (off : Nat) : List Byte → Option EngineError
  | a :: b :: rest =>
    if isKanjiPair (pairValue a b) then firstInvalidPair (off + 2) rest
    else some (.invalidCharacter (Word.ofNat (pairValue a b)) (Word.ofNat off))
  | [b] => some (.invalidCharacter (b.setWidth 32) (Word.ofNat off))
  | [] => none

/-- R163's validation of the segment's bytes. -/
def segmentError (mode : SegMode) (off : Nat) (bytes : List Byte) : Option EngineError :=
  match mode with
  | .numeric => firstInvalidByte isDigit off bytes
  | .alphanumeric => firstInvalidByte (fun b => (alnumCode b).isSome) off bytes
  | .byte => none
  | .kanji => firstInvalidPair off bytes

/-- The payload fields of R159-R162. -/
def segmentPayload (mode : SegMode) (bytes : List Byte) : List BitField :=
  match mode with
  | .numeric => numericPayload bytes
  | .alphanumeric => alnumPayload bytes
  | .byte => bytePayload bytes
  | .kanji => kanjiPayload bytes

/-- "count <- (n / 2 if mode = 3 else n)". -/
def segmentCount (mode : SegMode) (n : Nat) : Nat :=
  match mode with
  | .kanji => n / 2
  | .numeric | .alphanumeric | .byte => n

/-- R163: "[(MODE_IND[mode], 4), (count mod 2^w, w)] ++ payload fields". -/
def segmentFields (mode : SegMode) (v : Nat) (bytes : List Byte) : List BitField :=
  let w := countWidth mode v
  [(modeIndicator mode, 4), (segmentCount mode bytes.length % 2 ^ w, w)] ++ segmentPayload mode bytes

/-- R163: the checks in order, then one append of every field (its capacity check is the whole command's). -/
def bwSegBody (mode : SegMode) (s : State) : Result := do
  let v ← s.checkVersion
  s.checkStage s.arg1Unsigned
  let bytes := s.stage.readBytes s.arg0Unsigned s.arg1Unsigned
  match segmentError mode s.arg0Unsigned bytes with
  | some e => .error e
  | none => s.append (bitsOfFields (segmentFields mode v bytes))

/-- BW.SEG mode (R163). -/
def execBwSeg (mode : SegMode) (s : State) : Host.Outcome State Fault Refusal := s.finish (bwSegBody mode s)

end Sys2Proof.Machine
end

