-- ==== Sys2Proof/Machine/Dispatch.lean ====
section
/-!
DEFINITION. One arm for each command: the meaning the pending command has.
-/

namespace Sys2Proof.Machine

/-- The effect of the pending command `i` (R231: "runs the command's pseudocode, and ends the step"). -/
def exec (i : Instr) (s : State) : Host.Outcome State Fault Refusal :=
  match i with
  | .nop => Sys2Proof.Machine.execNop s
  | .gfExp => Sys2Proof.Machine.execGfExp s
  | .gfLog => Sys2Proof.Machine.execGfLog s
  | .gfMul => Sys2Proof.Machine.execGfMul s
  | .pClr d => Sys2Proof.Machine.execPClr d s
  | .pLoad d len => Sys2Proof.Machine.execPLoad d len s
  | .pStore a => Sys2Proof.Machine.execPStore a s
  | .pShl d a n => Sys2Proof.Machine.execPShl d a n s
  | .pMul d a b => Sys2Proof.Machine.execPMul d a b s
  | .pMod d a b => Sys2Proof.Machine.execPMod d a b s
  | .pGen d n => Sys2Proof.Machine.execPGen d n s
  | .rsBlock k => Sys2Proof.Machine.execRsBlock k s
  | .rsAll => Sys2Proof.Machine.execRsAll s
  | .cwIlv => Sys2Proof.Machine.execCwIlv s
  | .bwRst => Sys2Proof.Machine.execBwRst s
  | .bwPut n => Sys2Proof.Machine.execBwPut n s
  | .bwBit b => Sys2Proof.Machine.execBwBit b s
  | .bwSeg mode => Sys2Proof.Machine.execBwSeg mode s
  | .bwFin => Sys2Proof.Machine.execBwFin s
  | .mxClr => Sys2Proof.Machine.execMxClr s
  | .mxFnd => Sys2Proof.Machine.execMxFnd s
  | .mxAln => Sys2Proof.Machine.execMxAln s
  | .mxTim => Sys2Proof.Machine.execMxTim s
  | .mxFmt m trial => Sys2Proof.Machine.execMxFmt m trial s
  | .mxVer trial => Sys2Proof.Machine.execMxVer trial s
  | .mxMap m => Sys2Proof.Machine.execMxMap m s
  | .mxBuild m trial => Sys2Proof.Machine.execMxBuild m trial s
  | .mxPen => Sys2Proof.Machine.execMxPen s
  | .mxSel => Sys2Proof.Machine.execMxSel s
  | .qBuild => Sys2Proof.Machine.execQBuild s

end Sys2Proof.Machine
end

