-- ==== Sys2Proof/WellFormed.lean ====
section
/-!
DEFINITION. Which instruction terms are commands. The field types bound every operand but one: P.LOAD's 9-bit length
admits 0 and 257..511, which R96 makes illegal.
-/

namespace Sys2Proof

/-- R96: "P.LOAD requires `1 <= len <= 256`". -/
abbrev legalLength (len : BitVec 9) : Prop := 1 ≤ len.toNat ∧ len.toNat ≤ 256

/-- An instruction term that some command word spells (R95, R96). "Every other sub-field's full range is legal at
decode" (R96). -/
abbrev Instr.WellFormed : Instr → Prop
  | .pLoad _ len => legalLength len
  | .nop | .gfExp | .gfLog | .gfMul | .pClr _ | .pStore _ | .pShl _ _ _ | .pMul _ _ _ | .pMod _ _ _ | .pGen _ _
  | .rsBlock _ | .rsAll | .cwIlv | .bwRst | .bwPut _ | .bwBit _ | .bwSeg _ | .bwFin | .mxClr | .mxFnd | .mxAln
  | .mxTim | .mxFmt _ _ | .mxVer _ | .mxMap _ | .mxBuild _ _ | .mxPen | .mxSel | .qBuild => True

end Sys2Proof
end

