-- ==== Sys2Proof/Decode.lean ====
section
/-!
DEFINITION. From a command word to a command (R91-R97), and back. The decoder is total: a word that is no command is
rejected by name. The encoder fills the operand fields of the same table (R99 `enc`).
-/

namespace Sys2Proof

/-- Why a word is illegal (R97): "an unassigned OP, or a must-be-zero bit set" or "it fails rule R96". -/
inductive DecodeReject where
  /-- No row of R95 has the word's OP. -/
  | unassignedOpcode
  /-- The OP is assigned and a must-be-zero bit of its row is set. -/
  | mustBeZero
  /-- P.LOAD with len = 0 or len > 256 (R96). -/
  | badLength
  deriving DecidableEq, Repr

/-! ## The opcode map (R95) -/

/-- One row of the opcode map: "a word w spells the command when `(w & mask) == match`" (R95). -/
structure OpcodeRow where
  mnemonic : String
  pattern : Word
  mask : Word
  deriving DecidableEq, Repr

/-- The opcode map of R95, in its order. -/
def opcodeMap : List OpcodeRow :=
  [ ⟨"NOP", 0x00000000#32, 0xFFFFFFFF#32⟩,
    ⟨"GF.EXP", 0x01000000#32, 0xFFFFFFFF#32⟩,
    ⟨"GF.LOG", 0x02000000#32, 0xFFFFFFFF#32⟩,
    ⟨"GF.MUL", 0x03000000#32, 0xFFFFFFFF#32⟩,
    ⟨"P.CLR", 0x10000000#32, 0xFF8FFFFF#32⟩,
    ⟨"P.LOAD", 0x11000000#32, 0xFF8FFE00#32⟩,
    ⟨"P.STORE", 0x12000000#32, 0xFFF8FFFF#32⟩,
    ⟨"P.SHL", 0x13000000#32, 0xFF88FF00#32⟩,
    ⟨"P.MUL", 0x14000000#32, 0xFF888FFF#32⟩,
    ⟨"P.MOD", 0x15000000#32, 0xFF888FFF#32⟩ ] ++
  [ ⟨"P.GEN", 0x16000000#32, 0xFF8FFF00#32⟩,
    ⟨"RS.BLOCK", 0x20000000#32, 0xFFFFFF00#32⟩,
    ⟨"RS.ALL", 0x21000000#32, 0xFFFFFFFF#32⟩,
    ⟨"CW.ILV", 0x22000000#32, 0xFFFFFFFF#32⟩,
    ⟨"BW.RST", 0x30000000#32, 0xFFFFFFFF#32⟩,
    ⟨"BW.PUT", 0x31000000#32, 0xFFFFFFE0#32⟩,
    ⟨"BW.BIT", 0x32000000#32, 0xFFFFFFFE#32⟩,
    ⟨"BW.SEG", 0x33000000#32, 0xFFFFFFFC#32⟩,
    ⟨"BW.FIN", 0x34000000#32, 0xFFFFFFFF#32⟩ ] ++
  [ ⟨"MX.CLR", 0x40000000#32, 0xFFFFFFFF#32⟩,
    ⟨"MX.FND", 0x41000000#32, 0xFFFFFFFF#32⟩,
    ⟨"MX.ALN", 0x42000000#32, 0xFFFFFFFF#32⟩,
    ⟨"MX.TIM", 0x43000000#32, 0xFFFFFFFF#32⟩,
    ⟨"MX.FMT", 0x44000000#32, 0xFFFFFFF0#32⟩,
    ⟨"MX.VER", 0x45000000#32, 0xFFFFFFFE#32⟩,
    ⟨"MX.MAP", 0x46000000#32, 0xFFFFFFF8#32⟩,
    ⟨"MX.BUILD", 0x47000000#32, 0xFFFFFFF0#32⟩,
    ⟨"MX.PEN", 0x48000000#32, 0xFFFFFFFF#32⟩,
    ⟨"MX.SEL", 0x49000000#32, 0xFFFFFFFF#32⟩,
    ⟨"Q.BUILD", 0x50000000#32, 0xFFFFFFFF#32⟩ ]

/-! ## Fields (R92, R94) -/

/-- OP = word[31:24]. -/
def opField (w : Word) : BitVec 8 := w.extractLsb' 24 8
/-- D = word[22:20]. -/
def dField (w : Word) : PReg := (w.extractLsb' 20 3).toFin
/-- A = word[18:16]. -/
def aField (w : Word) : PReg := (w.extractLsb' 16 3).toFin
/-- B = word[14:12]. -/
def bField (w : Word) : PReg := (w.extractLsb' 12 3).toFin
/-- The low `n` bits of IMM (every sub-field of R95 but the trial bit of MX.FMT and MX.BUILD starts at IMM[0]). -/
def immLow (n : Nat) (w : Word) : BitVec n := w.extractLsb' 0 n
/-- IMM[2:0], a mask pattern. -/
def maskField (w : Word) : MaskId := (w.extractLsb' 0 3).toFin
/-- IMM[3], the trial bit of MX.FMT and MX.BUILD. -/
def trialField (w : Word) : Bool := w.getLsbD 3
/-- IMM[1:0], the segment mode (R156). -/
def modeField (w : Word) : SegMode :=
  match (w.extractLsb' 0 2).toFin with
  | 0 => .numeric
  | 1 => .alphanumeric
  | 2 => .byte
  | 3 => .kanji

/-- The bits of `w` that `mask` selects are zero outside the OP: the must-be-zero check of one row (R93, R95). -/
def fieldsClear (w mask : Word) : Bool := (w &&& mask &&& 0x00FFFFFF#32) == 0#32

/-- A row whose must-be-zero bits are those of `mask`: the command, or the rejection. -/
def rowGuard (w mask : Word) (i : Instr) : Except DecodeReject Instr :=
  if fieldsClear w mask then .ok i else .error .mustBeZero

/-! ## The decoder -/

/-- R95-R97: the command a word spells, or why it is illegal. -/
def decode (w : Word) : Except DecodeReject Instr :=
  match (opField w).toNat with
  | 0x00 => rowGuard w 0xFFFFFFFF#32 .nop
  | 0x01 => rowGuard w 0xFFFFFFFF#32 .gfExp
  | 0x02 => rowGuard w 0xFFFFFFFF#32 .gfLog
  | 0x03 => rowGuard w 0xFFFFFFFF#32 .gfMul
  | 0x10 => rowGuard w 0xFF8FFFFF#32 (.pClr (dField w))
  | 0x11 =>
    if fieldsClear w 0xFF8FFE00#32 then
      if legalLength (immLow 9 w) then .ok (.pLoad (dField w) (immLow 9 w)) else .error .badLength
    else .error .mustBeZero
  | 0x12 => rowGuard w 0xFFF8FFFF#32 (.pStore (aField w))
  | 0x13 => rowGuard w 0xFF88FF00#32 (.pShl (dField w) (aField w) (immLow 8 w))
  | 0x14 => rowGuard w 0xFF888FFF#32 (.pMul (dField w) (aField w) (bField w))
  | 0x15 => rowGuard w 0xFF888FFF#32 (.pMod (dField w) (aField w) (bField w))
  | 0x16 => rowGuard w 0xFF8FFF00#32 (.pGen (dField w) (immLow 8 w))
  | 0x20 => rowGuard w 0xFFFFFF00#32 (.rsBlock (immLow 8 w))
  | 0x21 => rowGuard w 0xFFFFFFFF#32 .rsAll
  | 0x22 => rowGuard w 0xFFFFFFFF#32 .cwIlv
  | 0x30 => rowGuard w 0xFFFFFFFF#32 .bwRst
  | 0x31 => rowGuard w 0xFFFFFFE0#32 (.bwPut (immLow 5 w))
  | 0x32 => rowGuard w 0xFFFFFFFE#32 (.bwBit (w.getLsbD 0))
  | 0x33 => rowGuard w 0xFFFFFFFC#32 (.bwSeg (modeField w))
  | 0x34 => rowGuard w 0xFFFFFFFF#32 .bwFin
  | 0x40 => rowGuard w 0xFFFFFFFF#32 .mxClr
  | 0x41 => rowGuard w 0xFFFFFFFF#32 .mxFnd
  | 0x42 => rowGuard w 0xFFFFFFFF#32 .mxAln
  | 0x43 => rowGuard w 0xFFFFFFFF#32 .mxTim
  | 0x44 => rowGuard w 0xFFFFFFF0#32 (.mxFmt (maskField w) (trialField w))
  | 0x45 => rowGuard w 0xFFFFFFFE#32 (.mxVer (w.getLsbD 0))
  | 0x46 => rowGuard w 0xFFFFFFF8#32 (.mxMap (maskField w))
  | 0x47 => rowGuard w 0xFFFFFFF0#32 (.mxBuild (maskField w) (trialField w))
  | 0x48 => rowGuard w 0xFFFFFFFF#32 .mxPen
  | 0x49 => rowGuard w 0xFFFFFFFF#32 .mxSel
  | 0x50 => rowGuard w 0xFFFFFFFF#32 .qBuild
  | _ => .error .unassignedOpcode

/-- The instruction the decoder reads from a word given as numbers. Every command is one 32-bit word (R91). -/
def decodeTableWord (_nbits w : Nat) : Option Instr := (decode (BitVec.ofNat 32 w)).toOption

/-! ## The encoder -/

/-- A value placed with its bit 0 at bit `at_` of the word. -/
def placed {n : Nat} (at_ : Nat) (v : BitVec n) : Word := v.setWidth 32 <<< at_

/-- A polynomial register index at its field. -/
def placedReg (at_ : Nat) (r : PReg) : Word := placed at_ (BitVec.ofFin (w := 3) r)

/-- A single bit at its place. -/
def placedBit (at_ : Nat) (b : Bool) : Word := placed at_ (BitVec.ofBool b)

/-- IMM[1:0] of BW.SEG (R156). -/
def modeCode : SegMode → BitVec 2
  | .numeric => 0#2
  | .alphanumeric => 1#2
  | .byte => 2#2
  | .kanji => 3#2

/-- R95, R94: the row's match with the operand fields filled. -/
def encode : Instr → Word
  | .nop => 0x00000000#32
  | .gfExp => 0x01000000#32
  | .gfLog => 0x02000000#32
  | .gfMul => 0x03000000#32
  | .pClr d => 0x10000000#32 ||| placedReg 20 d
  | .pLoad d len => 0x11000000#32 ||| placedReg 20 d ||| placed 0 len
  | .pStore a => 0x12000000#32 ||| placedReg 16 a
  | .pShl d a n => 0x13000000#32 ||| placedReg 20 d ||| placedReg 16 a ||| placed 0 n
  | .pMul d a b => 0x14000000#32 ||| placedReg 20 d ||| placedReg 16 a ||| placedReg 12 b
  | .pMod d a b => 0x15000000#32 ||| placedReg 20 d ||| placedReg 16 a ||| placedReg 12 b
  | .pGen d n => 0x16000000#32 ||| placedReg 20 d ||| placed 0 n
  | .rsBlock k => 0x20000000#32 ||| placed 0 k
  | .rsAll => 0x21000000#32
  | .cwIlv => 0x22000000#32
  | .bwRst => 0x30000000#32
  | .bwPut n => 0x31000000#32 ||| placed 0 n
  | .bwBit b => 0x32000000#32 ||| placedBit 0 b
  | .bwSeg mode => 0x33000000#32 ||| placed 0 (modeCode mode)
  | .bwFin => 0x34000000#32
  | .mxClr => 0x40000000#32
  | .mxFnd => 0x41000000#32
  | .mxAln => 0x42000000#32
  | .mxTim => 0x43000000#32
  | .mxFmt m trial => 0x44000000#32 ||| placedReg 0 m ||| placedBit 3 trial
  | .mxVer trial => 0x45000000#32 ||| placedBit 0 trial
  | .mxMap m => 0x46000000#32 ||| placedReg 0 m
  | .mxBuild m trial => 0x47000000#32 ||| placedReg 0 m ||| placedBit 3 trial
  | .mxPen => 0x48000000#32
  | .mxSel => 0x49000000#32
  | .qBuild => 0x50000000#32

end Sys2Proof
end

