-- ==== Sys2Proof/Machine/Port.lean ====
section
/-!
DEFINITION. The host port (20_memory.md): the address map (R25, R63), what a read returns and what a write does, idle and
busy (R67), the acceptance of a command (R231), dropped writes (R236), soft and hard reset (R251, R252).
-/

namespace Sys2Proof.Machine

/-! ## The address map -/

/-- What stands at a word of the address space (R25, R63). -/
inductive Location where
  | id
  | ctrl
  | status
  | cmd
  | arg0
  | arg1
  | result
  | cmdcnt
  | errinfo0
  | errinfo1
  | errcmd
  | version
  | eclevel
  | blkcnt
  | alncnt
  | bitlen
  | cwlen
  | modcnt
  | masksel
  | penalty
  | penA
  | penB
  | penC
  | penD
  | darkcnt
  | pentab (m : Nat)
  | plen (i : Nat)
  | cap0
  | cap1
  | alntab (w : Nat)
  | blktab (w : Nat)
  | exp (w : Nat)
  | log (w : Nat)
  | poly (i j : Nat)
  | stage (w : Nat)
  | bb (w : Nat)
  | ecc (w : Nat)
  | cw (w : Nat)
  | grid (r c : Nat)
  /-- "Every address not in the table is RAZ/WI" (R63). -/
  | unmapped
  deriving DecidableEq, Repr

/-- The register at word `w` of 0x000-0x0FF (R25). -/
def locateRegister (w : Nat) : Location :=
  match w with
  | 0x00 => .id
  | 0x01 => .ctrl
  | 0x02 => .status
  | 0x03 => .cmd
  | 0x04 => .arg0
  | 0x05 => .arg1
  | 0x06 => .result
  | 0x07 => .cmdcnt
  | 0x08 => .errinfo0
  | 0x09 => .errinfo1
  | 0x0A => .errcmd
  | 0x10 => .version
  | 0x11 => .eclevel
  | 0x12 => .blkcnt
  | 0x13 => .alncnt
  | 0x14 => .bitlen
  | 0x15 => .cwlen
  | 0x16 => .modcnt
  | 0x17 => .masksel
  | 0x18 => .penalty
  | 0x19 => .penA
  | 0x1A => .penB
  | 0x1B => .penC
  | 0x1C => .penD
  | 0x1D => .darkcnt
  | 0x30 => .cap0
  | 0x31 => .cap1
  | _ =>
    if 0x20 ≤ w ∧ w < 0x28 then .pentab (w - 0x20)
    else if 0x28 ≤ w ∧ w < 0x30 then .plen (w - 0x28)
    else .unmapped

/-- R63: the location at an aligned byte address. -/
def locate (addr : Nat) : Location :=
  if addr < 0x00100 then locateRegister (addr / 4)
  else if 0x01000 ≤ addr ∧ addr < 0x0101C then .alntab ((addr - 0x01000) / 4)
  else if 0x01100 ≤ addr ∧ addr < 0x01300 then .blktab ((addr - 0x01100) / 4)
  else if 0x02000 ≤ addr ∧ addr < 0x02400 then .exp ((addr - 0x02000) / 4)
  else if 0x02400 ≤ addr ∧ addr < 0x02800 then .log ((addr - 0x02400) / 4)
  else if 0x08000 ≤ addr ∧ addr < 0x0A000 then .poly ((addr - 0x08000) / 4 / 256) ((addr - 0x08000) / 4 % 256)
  else if 0x10000 ≤ addr ∧ addr < 0x18000 then .stage ((addr - 0x10000) / 4)
  else if 0x20000 ≤ addr ∧ addr < 0x24000 then .bb ((addr - 0x20000) / 4)
  else if 0x24000 ≤ addr ∧ addr < 0x28000 then .ecc ((addr - 0x24000) / 4)
  else if 0x28000 ≤ addr ∧ addr < 0x2C000 then .cw ((addr - 0x28000) / 4)
  else if 0x40000 ≤ addr ∧ addr < 0x80000 then .grid ((addr - 0x40000) / 4 / 256) ((addr - 0x40000) / 4 % 256)
  else .unmapped

/-! ## Reads -/

/-- R33: "CAP0 = `VMAX | (BLK_MAX << 8) | (POLY_MAX << 16)`". -/
def cap0Word : Word := Word.ofNat (Config.vMax ||| Config.blkMax <<< 8 ||| Config.polyMax <<< 16)
/-- R33: "CAP1 = `CW_MAX | (STAGE_MAX << 16)`". -/
def cap1Word : Word := Word.ofNat (Config.cwMax ||| Config.stageMax <<< 16)

/-- A byte in the low bits of a word, the other bits 0 (R64). -/
def byteWord (b : Byte) : Word := b.setWidth 32

/-- R38: (r, c) is a cell of the NMAX x NMAX GRID. -/
abbrev cellExists (r c : Nat) : Prop := r < Config.nMax ∧ c < Config.nMax

/-- R63: "code of GRID[r][c] if r < N and c < N, else 0". DESIGN CHOICE (log 20): after a composed command's error N may
exceed NMAX, and the spec gives no value to a word below N that names no cell; its code is a free value. -/
def State.gridWord (s : State) (r c : Nat) : Word :=
  if r < s.modcnt.toNat ∧ c < s.modcnt.toNat then
    (if cellExists r c then moduleCode (s.grid.get r c) else Config.absentCell r c).setWidth 32
  else 0#32

/-- The word a location holds (R25, R63, R64). -/
def State.view (s : State) : Location → Word
  | .id => Config.idWord
  | .ctrl => s.ctrlWord
  | .status => s.status.word
  | .cmd => s.cmd
  | .arg0 => s.arg0
  | .arg1 => s.arg1
  | .result => s.result
  | .cmdcnt => s.cmdcnt
  | .errinfo0 => s.errinfo0
  | .errinfo1 => s.errinfo1
  | .errcmd => s.errcmd
  | .version => s.version.setWidth 32
  | .eclevel => s.eclevel.setWidth 32
  | .blkcnt => s.blkcnt.setWidth 32
  | .alncnt => s.alncnt.setWidth 32
  | .bitlen => s.bitlen
  | .cwlen => s.cwlen
  | .modcnt => s.modcnt
  | .masksel => s.masksel.setWidth 32
  | .penalty => s.penalty
  | .penA => s.penA
  | .penB => s.penB
  | .penC => s.penC
  | .penD => s.penD
  | .darkcnt => s.darkcnt
  | .pentab m => s.pentab.toList.getD m 0#32
  | .plen i => Word.ofNat (s.p.toList.getD i []).length
  | .cap0 => cap0Word
  | .cap1 => cap1Word
  | .alntab w => byteWord (s.alntab.toList.getD w 0#8)
  | .blktab w => s.blktab.toList.getD w 0#32
  | .exp w => byteWord (expTable w)
  | .log w => Word.ofNat (logTable w)
  | .poly i j => byteWord ((s.p.toList.getD i []).getD j 0#8)
  | .stage w => byteWord (s.stage.read w)
  | .bb w => byteWord (bbByte s.bb w)
  | .ecc w => byteWord (s.ecc.read w)
  | .cw w => byteWord (s.cw.read w)
  | .grid r c => s.gridWord r c
  | .unmapped => 0#32

/-- R67: the locations a busy engine still answers, "ID, CTRL or STATUS". -/
def Location.readableBusy : Location → Bool
  | .id | .ctrl | .status => true
  | _ => false

/-- A free value as the value read (U1, U5). -/
def State.readFree (s : State) : State :=
  { s with rdata := Config.freeWord s.freeCount, freeCount := s.freeCount + 1 }

/-- R67, R251: a host read. "Reads have no side effects" (R69): only the value read is recorded. -/
def State.hostRead (s : State) (loc : Location) : State :=
  if !s.rstN || (s.status.busy && !loc.readableBusy) then s.readFree else { s with rdata := s.view loc }

/-! ## Writes -/

/-- R236: "A host write that the engine does not perform sets STATUS.DROP ... and has no other effect". -/
def State.dropWrite (s : State) : State := { s with status := s.status.dropped }

/-- R231: "CMD reads w, STATUS.BUSY becomes 1 and w is the pending command". How many inputs may land before the engine's
step is a free value (U4, log 2). -/
def State.acceptCommand (s : State) (w : Word) : State :=
  { s with
    cmd := w, status := s.status.accepted, delay := Config.stepDelay s.freeCount, freeCount := s.freeCount + 1 }

/-- A write to an idle engine (R25, R26, R27, R64, R67, R69). -/
def State.idleWrite (s : State) (loc : Location) (wdata : Word) : State :=
  match loc with
  | .ctrl =>
    if wdata.getLsbD 0 then s.engineReset
    else { s with ieDone := wdata.getLsbD 1, ieErr := wdata.getLsbD 2 }
  | .status => { s with status := s.status.cleared wdata }
  | .cmd => if s.status.err = .none then s.acceptCommand wdata else s.dropWrite
  | .arg0 => { s with arg0 := wdata }
  | .arg1 => { s with arg1 := wdata }
  | .version => { s with version := wdata.setWidth 6 }
  | .eclevel => { s with eclevel := wdata.setWidth 2 }
  | .blkcnt => { s with blkcnt := wdata.setWidth 8 }
  | .alncnt => { s with alncnt := wdata.setWidth 3 }
  | .alntab w => { s with alntab := s.alntab.setIfInBounds w (wdata.setWidth 8) }
  | .blktab w => { s with blktab := s.blktab.setIfInBounds w wdata }
  | .stage w => { s with stage := s.stage.write w (wdata.setWidth 8) }
  | .id | .result | .cmdcnt | .errinfo0 | .errinfo1 | .errcmd | .bitlen | .cwlen | .modcnt | .masksel | .penalty
  | .penA | .penB | .penC | .penD | .darkcnt | .pentab _ | .plen _ | .cap0 | .cap1 | .exp _ | .log _ | .poly _ _
  | .bb _ | .ecc _ | .cw _ | .grid _ _ | .unmapped => s

/-- R67: while busy "a write to CTRL with wdata[0] = 1 performs the soft reset; every other write is dropped". -/
def State.busyWrite (s : State) (loc : Location) (wdata : Word) : State :=
  if loc = .ctrl ∧ wdata.getLsbD 0 then s.engineReset else s.dropWrite

/-- A host write. While `rst_n` is low it has no effect (R251). -/
def State.hostWrite (s : State) (loc : Location) (wdata : Word) : State :=
  if !s.rstN then s else if s.status.busy then s.busyWrite loc wdata else s.idleWrite loc wdata

/-! ## Inputs -/

/-- R66: "only 32-bit accesses at addresses that are multiples of 4". -/
def insideInterface (bytes : Nat) (addr : BitVec 20) : Bool := bytes == 4 && addr.toNat % 4 == 0

/-- One host input (R69, R99, R251). A WAIT stands first among the inputs again until its read shows BUSY = 0. -/
def State.perform (s : State) (i : Input) : Host.Outcome State Fault Refusal :=
  match i with
  | .read bytes addr =>
    if insideInterface bytes addr then .next (s.hostRead (locate addr.toNat)) else .refused .accessOutsideInterface
  | .write bytes addr data =>
    if insideInterface bytes addr then .next (s.hostWrite (locate addr.toNat) data)
    else .refused .accessOutsideInterface
  | .wait =>
    let t := s.hostRead .status
    .next (if t.rdata.getLsbD 0 then { t with inputs := .wait :: t.inputs } else t)
  | .rstLow => .next { s.engineReset with rstN := false }
  | .rstHigh => .next { s.engineReset with rstN := true }

/-- The next host input lands. One fewer may land before a pending command is performed. With no input the engine is idle
and nothing happens (log 11). -/
def State.inputStep (s : State) : Host.Outcome State Fault Refusal :=
  match s.inputs with
  | [] => .next s
  | i :: rest => { s with inputs := rest, delay := s.delay - 1 }.perform i

/-! ## The engine -/

/-- The engine moves: a command is pending, and the schedule's inputs have landed or none is left (U4, log 2). -/
def State.engineMoves (s : State) : Bool := s.rstN && s.status.busy && (s.delay == 0 || s.inputs.isEmpty)

/-- What the decoder makes of the pending command (R231: "it decodes w"). -/
def State.pending (s : State) : Except DecodeReject Instr := decode s.cmd

/-- R237: an illegal word: "ERRINFO0 = the word. Nothing of the command is performed". -/
def State.illegalStep (s : State) : State := s.errorEnd (.illegalCommand s.cmd)

/-- The state with a command word pending and the schedule's inputs landed: what an accepted CMD write of that word leaves
(R231), so that the next step performs it. -/
def State.withPending (s : State) (w : Word) : State :=
  { s with rstN := true, cmd := w, status := s.status.accepted, delay := 0 }

end Sys2Proof.Machine
end

