-- ==== Sys2Proof/Machine/Step.lean ====
section
/-!
DEFINITION. One step of the machine: the engine performs the pending command as one atomic step (R22, R231), or the next
host input lands (R69).
-/

namespace Sys2Proof.Machine

/-- One step. Whose turn it is is plain data in the state (log 2). -/
def step (s : State) : Host.Outcome State Fault Refusal :=
  if s.engineMoves then
    match s.pending with
    | .ok i => exec i s
    | .error _ => .next s.illegalStep
  else s.inputStep

/-- The state whose next step performs the command word `w`. A command is written to CMD, not fetched (R24), so this is the
acceptance of the word (log 1). -/
def State.withFetchWord (s : State) (_nbits w : Nat) : State := s.withPending (BitVec.ofNat 32 w)

end Sys2Proof.Machine
end

