-- ==== Sys2Proof/Safety.lean ====
section
/-!
DEFINITION. What holds of every state a run reaches, in the terms claims use. `State.Inv` rules out states no run reaches.
-/

namespace Sys2Proof.Machine

/-- No error has been recorded since reset (R232, code 0). -/
abbrev State.ErrorFree (s : State) : Prop := s.status.err = .none

/-- A command is the engine's to perform: the engine is idle of errors, out of reset, and a command is pending (R22). -/
abbrev State.Ready (s : State) : Prop := s.rstN = true ∧ s.status.busy = true ∧ s.ErrorFree

/-- R136: "no leading zero coefficients except the single zero polynomial", at least one coefficient. -/
def normalized : Poly → Bool
  | [] => false
  | [_] => true
  | c :: _ :: _ => c ≠ 0#8

/-- R23: what a polynomial register may hold: "a list of 1..POLY_MAX bytes ... always normalized". -/
def polyOk (q : Poly) : Bool := normalized q && decide (q.length ≤ Config.polyMax)

/-- Every listed index lies below `n`. -/
def Memory.within (n : Nat) (m : Memory) : Bool := m.all (fun e => decide (e.1 < n))

/-- Every assigned cell lies in the n x n grid. -/
def Grid.within (n : Nat) (g : Grid) : Bool :=
  g.all (fun row => decide (row.1 < n) && row.2.all (fun cell => decide (cell.1 < n)))

/-- A grid dimension MX.CLR can latch (R187, R38): 0 before the first, else 4v+17 for v in 1..VMAX. -/
def legalDimension (n : Nat) : Bool := n == 0 || (decide (21 ≤ n) && decide (n ≤ Config.nMax) && n % 4 == 1)

/-- The invariant of every run. Where a composed command may leave a location unspecified after its error (R233), the
clause speaks of error-free states only. -/
structure State.Inv (s : State) : Prop where
  /-- STAGE, ECC and CW are in canonical form. -/
  stage_wf : s.stage.wf = true
  ecc_wf : s.ecc.wf = true
  cw_wf : s.cw.wf = true
  /-- STAGE lists no byte past STAGE_MAX (R39), CW none past CW_MAX (R37). -/
  stage_range : s.stage.within Config.stageMax = true
  cw_range : s.cw.within Config.cwMax = true
  /-- The grid is in canonical form and lies in NMAX x NMAX (R38). -/
  grid_wf : s.grid.wf = true
  grid_range : s.grid.within Config.nMax = true
  /-- Every polynomial register is normalized and fits (R23, R136). -/
  polys : s.p.all polyOk = true
  /-- BB.len is at most BB_BITS (R36). -/
  bb_length : s.bb.length ≤ Config.bbBits
  /-- BITLEN reads BB.len (R36). -/
  bitlen : s.ErrorFree → s.bitlen = Word.ofNat s.bb.length
  /-- CWLEN is at most CW_MAX (R37, R172). -/
  cwlen : s.ErrorFree → s.cwlen.toNat ≤ Config.cwMax
  /-- MODCNT is 0 or the dimension of a version 1..40 (R38, R187). -/
  modcnt : s.ErrorFree → legalDimension s.modcnt.toNat = true
  /-- "only cells with row, col < N belong to the symbol" (R38): no other cell is assigned. -/
  grid_symbol : s.ErrorFree → s.grid.within s.modcnt.toNat = true
  /-- The error registers are written by an error end only (R233). -/
  error_registers : s.ErrorFree → s.errinfo0 = 0#32 ∧ s.errinfo1 = 0#32 ∧ s.errcmd = 0#32
  /-- A command is accepted only when ERR = 0 (R231), and none is pending in reset (R251). -/
  busy_ready : s.status.busy = true → s.Ready
  /-- An idle engine waits for no input. -/
  idle_delay : s.status.busy = false → s.delay = 0
  /-- While `rst_n` is low the engine is held at its reset values (R251). -/
  held : s.rstN = false → s = s.engineReset

end Sys2Proof.Machine
end

