-- ==== Sys2Proof/Certificates/Slice0/Obligations.lean ====
section
/-!
DEFINITION. The statements for the provers. Each `Obligations.<Name>` says what it states in its docstring; the words the
statements use are defined first, from the spec's formulas and not from the model's functions where the two can differ.
-/

namespace Sys2Proof.Claims

open Sys2Proof.Machine

/-! ## Words of the statements -/

/-- α^n, by repeated multiplication by x modulo 0x11D (R121, R122). -/
def alphaPow (n : Nat) : Byte := xtime^[n] 1#8

/-- The product of two elements as polynomials over GF(2) modulo 0x11D (R121): no logarithm is taken. -/
def fieldProduct (a b : Byte) : Byte :=
  (List.range 8).foldl (fun acc i => if b.getLsbD i then acc ^^^ (xtime^[i] a) else acc) 0#8

/-- The XOR of a list of coefficients. -/
def xorSum (l : List Byte) : Byte := l.foldl (· ^^^ ·) 0#8

/-- The value of a coefficient list, highest degree first, at a field element. -/
def eval (q : List Byte) (x : Byte) : Byte := q.foldl (fun acc c => gmul acc x ^^^ c) 0#8

/-- VERSION is one the engine builds (R187). -/
abbrev versionOk (s : State) : Prop := 1 ≤ s.version.toNat ∧ s.version.toNat ≤ 40

/-- dc_k (R34). -/
def dc (s : State) (k : Nat) : Nat := (s.blktab.toList.getD k 0#32).toNat % 65536
/-- tc_k (R34). -/
def tc (s : State) (k : Nat) : Nat := (s.blktab.toList.getD k 0#32).toNat / 65536
/-- ec_k (R171). -/
def ec (s : State) (k : Nat) : Nat := tc s k - dc s k
/-- Sum of f j for j < k. -/
def sumBelow (f : Nat → Nat) (k : Nat) : Nat := ((List.range k).map f).sum

/-- "1 <= dc_k <= tc_k <= POLY_MAX" (R172). -/
abbrev descriptorOk (s : State) (k : Nat) : Prop := 1 ≤ dc s k ∧ dc s k ≤ tc s k ∧ tc s k ≤ 256

/-- The block table passes every check of R172. -/
abbrev tableOk (s : State) : Prop :=
  1 ≤ s.blkcnt.toNat ∧ s.blkcnt.toNat ≤ 128 ∧ (∀ k < s.blkcnt.toNat, descriptorOk s k) ∧
    sumBelow (tc s) s.blkcnt.toNat ≤ 4096

/-- Block k's data codewords (R171, R175). -/
def blockBytes (s : State) (k : Nat) : List Byte :=
  (List.range (dc s k)).map (fun i => bbByte s.bb (sumBelow (dc s) k + i))

/-- Block k's correction codewords as they stand in ECC (R171, R177). -/
def blockEccBytes (s : State) (k : Nat) : List Byte :=
  (List.range (ec s k)).map (fun i => s.ecc.read (sumBelow (ec s) k + i))

/-- ALN[i] (R35). -/
def aln (s : State) (i : Nat) : Nat := (s.alntab.toList.getD i 0#8).toNat

/-- Entry i is accepted for dimension n (R192): "2 <= ALN[i] <= N-3". -/
abbrev centreOk (s : State) (n i : Nat) : Prop := 2 ≤ aln s i ∧ aln s i + 3 ≤ n

/-- Every valid entry of ALNTAB is accepted for dimension n. -/
abbrev centresOk (s : State) (n : Nat) : Prop := ∀ i < s.alncnt.toNat, centreOk s n i

/-- A grid stands: MODCNT holds the dimension of a version (R186, R187). -/
abbrev hasGrid (s : State) : Prop := s.modcnt ≠ 0#32 ∧ legalDimension s.modcnt.toNat = true

/-- The latched dimension N (R186). -/
abbrev dim (s : State) : Nat := s.modcnt.toNat

/-- The distance of two numbers. -/
def gap (a b : Nat) : Nat := max (a - b) (b - a)

/-- The pairs of alignment centres, in row-major order of (i, j) (R192). -/
def centrePairs (s : State) : List (Nat × Nat) :=
  (List.range s.alncnt.toNat).flatMap fun i => (List.range s.alncnt.toNat).map fun j => (aln s i, aln s j)

/-- R192 on a grid given as a function: a pair whose centre is assigned is skipped, else its 5x5 square is painted, light
at distance 1 from the centre and dark at 0 and 2 (R191). -/
def alignFrom : List (Nat × Nat) → (Nat → Nat → Module) → Nat → Nat → Module
  | [], f => f
  | (pr, pc) :: rest, f =>
    if f pr pc ≠ .unassigned then alignFrom rest f
    else alignFrom rest fun r c =>
      if gap r pr ≤ 2 ∧ gap c pc ≤ 2 then moduleOfDark (max (gap r pr) (gap c pc) != 1) else f r c

/-- R188 by rings: the distance from the centre of a finder pattern that makes a cell dark. -/
def finderRing (d : Nat) : Bool := d ≤ 1 || d == 3

/-- R190: the colour MX.FND gives a cell of the three corner regions; none elsewhere. The centres of the patterns are
(3, 3), (N-4, 3) and (3, N-4). -/
def finderCell (n r c : Nat) : Option Bool :=
  if n ≤ r ∨ n ≤ c then none
  else if r ≤ 7 ∧ c ≤ 7 then some (finderRing (max (gap r 3) (gap c 3)))
  else if n ≤ r + 8 ∧ c ≤ 7 then some (finderRing (max (gap r (n - 4)) (gap c 3)))
  else if r ≤ 7 ∧ n ≤ c + 8 then some (finderRing (max (gap r 3) (gap c (n - 4))))
  else none

/-- The literal loop of R200: "right column, then left" at each row, turning at the top and the bottom. -/
def walk (n : Nat) : Nat → Int → Int → Int → List (Nat × Nat)
  | 0, _, _, _ => []
  | fuel + 1, col, row, inc =>
    if col ≤ 0 then []
    else
      let here := [(row.toNat, col.toNat), (row.toNat, (col - 1).toNat)]
      if row + inc < 0 ∨ (n : Int) ≤ row + inc then
        here ++ walk n fuel (if col - 2 = 6 then 5 else col - 2) row (-inc)
      else here ++ walk n fuel col (row + inc) inc

/-- R199: "flipped when", row by row of the table. -/
def flips (m i j : Nat) : Bool :=
  [(i + j) % 2 == 0, i % 2 == 0, j % 3 == 0, (i + j) % 3 == 0, (i / 2 + j / 3) % 2 == 0, i * j % 2 + i * j % 3 == 0,
    (i * j % 2 + i * j % 3) % 2 == 0, (i * j % 3 + (i + j) % 2) % 2 == 0].getD m false

/-- R201: bit b of the codeword stream, 0 once the stream is exhausted. -/
def streamBitAt (s : State) (b : Nat) : Bool :=
  decide (b < 8 * s.cwlen.toNat) && (s.cw.read (b / 8)).toNat / 2 ^ (7 - b % 8) % 2 == 1

/-- One visit of R201's loop: the grid and the stream bit index. -/
def mapVisit (s : State) (m : MaskId) (gb : Grid × Nat) (rc : Nat × Nat) : Grid × Nat :=
  if gb.1.get rc.1 rc.2 = .unassigned then
    (gb.1.set rc.1 rc.2 (if streamBitAt s gb.2 = flips m.val rc.1 rc.2 then .light else .dark), gb.2 + 1)
  else gb

/-- R194's table of format words, by level code: M (00), L (01), H (10), Q (11). -/
def formatTable : List (List Nat) :=
  [[0x5412, 0x5125, 0x5E7C, 0x5B4B, 0x45F9, 0x40CE, 0x4F97, 0x4AA0],
    [0x77C4, 0x72F3, 0x7DAA, 0x789D, 0x662F, 0x6318, 0x6C41, 0x6976],
    [0x1689, 0x13BE, 0x1CE7, 0x19D0, 0x0762, 0x0255, 0x0D0C, 0x083B],
    [0x355F, 0x3068, 0x3F31, 0x3A06, 0x24B4, 0x2183, 0x2EDA, 0x2BED]]

/-- The format word of a level code and a mask (R194). -/
def formatWord (e m : Nat) : Nat := (formatTable.getD e []).getD m 0

/-- R197's table of version words, from version 7 on. -/
def versionTable : List Nat :=
  [0x07C94, 0x085BC, 0x09A99, 0x0A4D3, 0x0BBF6, 0x0C762, 0x0D847, 0x0E60D, 0x0F928, 0x10B78, 0x1145D, 0x12A17] ++
  [0x13532, 0x149A6, 0x15683, 0x168C9, 0x177EC, 0x18EC4, 0x191E1, 0x1AFAB, 0x1B08E, 0x1CC1A, 0x1D33F, 0x1ED75] ++
  [0x1F250, 0x209D5, 0x216F0, 0x228BA, 0x2379F, 0x24B0B, 0x2542E, 0x26A64, 0x27541, 0x28C69]

/-- The version word of a version from 7 on (R197). -/
def versionWord (v : Nat) : Nat := versionTable.getD (v - 7) 0

/-- A command ends in the error e: its code, its information, the command's word, DONE as it was (R233, R231). -/
def reports (i : Instr) (s : State) (e : EngineError) : Prop :=
  ∃ t, exec i s = .next t ∧ t.status = { s.status with busy := false, err := e.code } ∧ t.errinfo0 = e.info0 ∧
    t.errinfo1 = e.info1 ∧ t.errcmd = s.cmd

/-- The errors of the builds: a VERSION outside 1..40, or the lowest alignment entry outside its range (R202, R235). -/
def buildErrors (i : Instr) (s : State) : Prop :=
  (¬ versionOk s → reports i s (.invalidParameter .version (s.version.setWidth 32))) ∧
  (versionOk s → ∀ k < s.alncnt.toNat, (∀ j < k, centreOk s (4 * s.version.toNat + 17) j) →
    ¬ centreOk s (4 * s.version.toNat + 17) k → reports i s (.invalidParameter .alnTab (Word.ofNat k)))

/-- Coefficient k of the product of two coefficient lists: the XOR over all i + j = k (R138). -/
def productCoeff (x y : List Byte) (k : Nat) : Byte :=
  xorSum ((List.range x.length).map fun i =>
    if i ≤ k ∧ k - i < y.length then gmul (x.getD i 0#8) (y.getD (k - i) 0#8) else 0#8)

/-- R177: where the interleaved stream holds position i of block k, when block k' has `len k'` positions: after every
position below i of every block, and after position i of the blocks before k that have one. -/
def slot (len : Nat → Nat) (count i k : Nat) : Nat :=
  sumBelow (fun i' => (List.range count).countP (fun k' => i' < len k')) i
    + (List.range k).countP (fun k' => i < len k')

/-- Commands performed one after another; none where one is refused or faults. -/
def runAll : List Instr → State → Option State
  | [], s => some s
  | i :: rest, s =>
    match exec i s with
    | .next t => runAll rest t
    | .fault _ => none
    | .refused _ => none

/-- The alphabet of R160, in code order. -/
def alphabet : List Nat :=
  [0x30, 0x31, 0x32, 0x33, 0x34, 0x35, 0x36, 0x37, 0x38, 0x39] ++
  [0x41, 0x42, 0x43, 0x44, 0x45, 0x46, 0x47, 0x48, 0x49, 0x4A, 0x4B, 0x4C, 0x4D, 0x4E, 0x4F, 0x50, 0x51, 0x52, 0x53,
    0x54, 0x55, 0x56, 0x57, 0x58, 0x59, 0x5A] ++
  [0x20, 0x24, 0x25, 0x2A, 0x2B, 0x2D, 0x2E, 0x2F, 0x3A]

/-- The k-th byte of the segment ARG0, ARG1 name (R163). -/
def segByte (s : State) (k : Nat) : Nat := (s.stage.read (s.arg0.toNat + k)).toNat

/-- The pair at byte k of the segment, as a 16-bit value (R162). -/
def segPair (s : State) (k : Nat) : Nat := 256 * segByte s k + segByte s (k + 1)

/-- A pair of R162's two ranges. -/
abbrev kanjiOk (c : Nat) : Prop := (0x8140 ≤ c ∧ c ≤ 0x9FFC) ∨ (0xE040 ≤ c ∧ c ≤ 0xEBBF)

/-- What R163's validation asks of the segment's bytes. -/
def segmentOk (mode : SegMode) (s : State) : Prop :=
  match mode with
  | .numeric => ∀ k < s.arg1.toNat, 0x30 ≤ segByte s k ∧ segByte s k ≤ 0x39
  | .alphanumeric => ∀ k < s.arg1.toNat, segByte s k ∈ alphabet
  | .byte => True
  | .kanji => s.arg1.toNat % 2 = 0 ∧ ∀ k < s.arg1.toNat, k % 2 = 0 → kanjiOk (segPair s k)

/-- The payload bits of a segment of n bytes (R164). -/
def payloadLength (mode : SegMode) (n : Nat) : Nat :=
  match mode with
  | .numeric => 10 * (n / 3) + (if n % 3 = 0 then 0 else if n % 3 = 1 then 4 else 7)
  | .alphanumeric => 11 * (n / 2) + 6 * (n % 2)
  | .byte => 8 * n
  | .kanji => 13 * (n / 2)

/-- The number in `width` bits of a bit list from position `at_` on. -/
def fieldAt (bits : List Bool) (at_ width : Nat) : Nat := numberOfBits ((bits.drop at_).take width)

/-- What the payload bits of a segment say (R159-R162). -/
def payloadOk (mode : SegMode) (s : State) (payload : List Bool) : Prop :=
  let n := s.arg1.toNat
  match mode with
  | .numeric =>
    (∀ g < n / 3, fieldAt payload (10 * g) 10
      = 100 * (segByte s (3 * g) - 48) + 10 * (segByte s (3 * g + 1) - 48) + (segByte s (3 * g + 2) - 48)) ∧
    (n % 3 = 2 → fieldAt payload (10 * (n / 3)) 7 = 10 * (segByte s (n - 2) - 48) + (segByte s (n - 1) - 48)) ∧
    (n % 3 = 1 → fieldAt payload (10 * (n / 3)) 4 = segByte s (n - 1) - 48)
  | .alphanumeric =>
    (∀ g < n / 2, fieldAt payload (11 * g) 11
      = 45 * alphabet.idxOf (segByte s (2 * g)) + alphabet.idxOf (segByte s (2 * g + 1))) ∧
    (n % 2 = 1 → fieldAt payload (11 * (n / 2)) 6 = alphabet.idxOf (segByte s (n - 1)))
  | .byte => ∀ k < n, fieldAt payload (8 * k) 8 = segByte s k
  | .kanji => ∀ g < n / 2,
      let c := segPair s (2 * g)
      let d := if c ≤ 0x9FFC then c - 0x8140 else c - 0xC140
      fieldAt payload (13 * g) 13 = d / 256 * 0xC0 + d % 256

/-- The width of the count indicator (R158), by the version range {1-9, 10-26, 27-40}. -/
def widthTable (mode : SegMode) (v : Nat) : Nat :=
  let range := if v ≤ 9 then 0 else if v ≤ 26 then 1 else 2
  match mode with
  | .numeric => [10, 12, 14].getD range 0
  | .alphanumeric => [9, 11, 13].getD range 0
  | .byte => [8, 16, 16].getD range 0
  | .kanji => [8, 10, 12].getD range 0

/-- A line of the grid as a function; a position outside is light. -/
abbrev Line := Nat → Bool

/-- The 2N lines of a grid of dimension n. -/
def linesOf (g : Grid) (n : Nat) : List Line :=
  (List.range n).map (fun r => fun c => decide (c < n ∧ g.get r c = .dark)) ++
    (List.range n).map (fun c => fun r => decide (r < n ∧ g.get r c = .dark))

/-- The cells p .. p+l-1 of a line of n cells are a maximal run of equal cells (R210). -/
def maximalRun (n : Nat) (line : Line) (p l : Nat) : Bool :=
  decide (1 ≤ l) && decide (p + l ≤ n) && (List.range l).all (fun j => line (p + j) == line p)
    && (p == 0 || line (p - 1) != line p) && (p + l == n || line (p + l) != line p)

/-- R210, as a sum over places. -/
def ruleA (g : Grid) (n : Nat) : Nat :=
  ((linesOf g n).map fun line =>
    ((List.range n).map fun p =>
      ((List.range (n + 1)).map fun l => if maximalRun n line p l ∧ 5 ≤ l then 3 + (l - 5) else 0).sum).sum).sum

/-- R211, as a sum over places. -/
def ruleB (g : Grid) (n : Nat) : Nat :=
  3 * ((List.range (n - 1)).map fun r =>
    ((List.range (n - 1)).map fun c =>
      if g.isDark r c = g.isDark (r + 1) c ∧ g.isDark r c = g.isDark r (c + 1) ∧
        g.isDark r c = g.isDark (r + 1) (c + 1) then 1 else 0).sum).sum

/-- R212: an occurrence at place p of a line, with a light margin on at least one side. -/
def occurrence (line : Line) (p : Nat) : Bool :=
  ((List.range 7).map (fun j => line (p + j)) == [true, false, true, true, true, false, true])
    && ((List.range 4).all (fun j => p ≤ j || !line (p - 1 - j)) || (List.range 4).all (fun j => !line (p + 7 + j)))

/-- R212, as a sum over places. -/
def ruleC (g : Grid) (n : Nat) : Nat :=
  40 * ((linesOf g n).map fun line =>
    ((List.range (n - 6)).map fun p => if occurrence line p then 1 else 0).sum).sum

/-- The number of dark cells of a grid of dimension n. -/
def darkCells (g : Grid) (n : Nat) : Nat :=
  ((List.range n).map fun r => ((List.range n).map fun c => if g.isDark r c then 1 else 0).sum).sum

/-- R213: "10 * floor( |100*k - 50*T| / (5*T) )". -/
def ruleD (g : Grid) (n : Nat) : Nat := 10 * (gap (100 * darkCells g n) (50 * (n * n)) / (5 * (n * n)))

/-- The four rules together (R213). -/
def ruleTotal (g : Grid) (n : Nat) : Nat := ruleA g n + ruleB g n + ruleC g n + ruleD g n

/-- The grid of the trial build with mask m (R215). -/
def trialGrid (s : State) (m : MaskId) : Grid :=
  match exec (.mxBuild m true) s with
  | .next t => t.grid
  | .fault _ => []
  | .refused _ => []

/-- The dimension of VERSION (R187). -/
abbrev newDim (s : State) : Nat := 4 * s.version.toNat + 17

/-- The score total of the trial build with mask m (R215). -/
def trialTotal (s : State) (m : MaskId) : Nat := ruleTotal (trialGrid s m) (newDim s)

/-! ## Writes lists -/

/-- The composed commands (R225). -/
def composed : Instr → Bool
  | .mxBuild _ _ | .mxSel | .qBuild => true
  | _ => false

/-- The commands that write RESULT (R23). -/
def writesResult : Instr → Bool
  | .gfExp | .gfLog | .gfMul | .pStore _ | .rsBlock _ | .rsAll | .mxMap _ | .mxBuild _ _ | .mxSel | .qBuild => true
  | _ => false

/-- The polynomial register a command writes (R141-R147). -/
def destination : Instr → Option PReg
  | .pClr d | .pLoad d _ | .pShl d _ _ | .pMul d _ _ | .pMod d _ _ | .pGen d _ => some d
  | _ => none

/-- The commands that write STAGE (R39, R143). -/
def writesStage : Instr → Bool
  | .pStore _ => true
  | _ => false

/-- The commands that write BB and BITLEN (R111, R227). -/
def writesBuffer : Instr → Bool
  | .bwRst | .bwPut _ | .bwBit _ | .bwSeg _ | .bwFin | .qBuild => true
  | _ => false

/-- The commands that write ECC (R37, R227). -/
def writesEcc : Instr → Bool
  | .rsBlock _ | .rsAll | .qBuild => true
  | _ => false

/-- The commands that write CW and CWLEN (R37, R227). -/
def writesCw : Instr → Bool
  | .cwIlv | .qBuild => true
  | _ => false

/-- The commands that write MODCNT (R187, R202, R215, R227). -/
def writesModcnt : Instr → Bool
  | .mxClr | .mxBuild _ _ | .mxSel | .qBuild => true
  | _ => false

/-- The commands that write GRID (R187-R202, R215, R227). -/
def writesGrid : Instr → Bool
  | .mxClr | .mxFnd | .mxAln | .mxTim | .mxFmt _ _ | .mxVer _ | .mxMap _ | .mxBuild _ _ | .mxSel | .qBuild => true
  | _ => false

/-- The commands that write the penalty registers (R214, R215, R227). -/
def writesPenalty : Instr → Bool
  | .mxPen | .mxSel | .qBuild => true
  | _ => false

/-- The commands that write PENTAB and MASKSEL (R215, R227). -/
def writesSelection : Instr → Bool
  | .mxSel | .qBuild => true
  | _ => false

/-- How many low bits a host write stores at a writable location (R25, R64). -/
def writable : Location → Option Nat
  | .arg0 | .arg1 => some 32
  | .version => some 6
  | .eclevel => some 2
  | .blkcnt => some 8
  | .alncnt => some 3
  | .alntab w => if w < 7 then some 8 else none
  | .blktab w => if w < 128 then some 32 else none
  | .stage w => if w < 8192 then some 8 else none
  | _ => none

/-- The locations a host write does not change: RO registers and windows, RAZ/WI addresses (R25, R63). -/
def readOnly : Location → Bool
  | .id | .result | .cmdcnt | .errinfo0 | .errinfo1 | .errcmd | .bitlen | .cwlen | .modcnt | .masksel | .penalty
  | .penA | .penB | .penC | .penD | .darkcnt | .pentab _ | .plen _ | .cap0 | .cap1 | .exp _ | .log _ | .poly _ _
  | .bb _ | .ecc _ | .cw _ | .grid _ _ | .unmapped => true
  | _ => false

/-- A write dropped (R236). -/
def drop (s : State) : State := { s with status := { s.status with drop := true } }

/-- The register map of R25, registers 0x000-0x07F and the capability words. -/
def registerMap : List (Nat × Location) :=
  [(0x000, .id), (0x004, .ctrl), (0x008, .status), (0x00C, .cmd), (0x010, .arg0), (0x014, .arg1), (0x018, .result),
    (0x01C, .cmdcnt), (0x020, .errinfo0), (0x024, .errinfo1), (0x028, .errcmd)] ++
  [(0x040, .version), (0x044, .eclevel), (0x048, .blkcnt), (0x04C, .alncnt), (0x050, .bitlen), (0x054, .cwlen),
    (0x058, .modcnt), (0x05C, .masksel), (0x060, .penalty), (0x064, .penA), (0x068, .penB), (0x06C, .penC),
    (0x070, .penD), (0x074, .darkcnt), (0x0C0, .cap0), (0x0C4, .cap1)]

end Sys2Proof.Claims

section
open Sys2Proof Sys2Proof.Machine Sys2Proof.Claims

/-! ## Encoding -/

/-- Decoding the encoding of a well-formed command gives it back. -/
def Obligations.DecodeOfEncode : Prop := ∀ i : Instr, i.WellFormed → decode (encode i) = .ok i

/-- A word the decoder accepts is the encoding of the well-formed command it gives: no accepted bit is dropped. -/
def Obligations.EncodeOfDecode : Prop := ∀ (w : Word) (i : Instr), decode w = .ok i → i.WellFormed ∧ encode i = w

/-- R97: a word is illegal exactly when no row of R95 matches it or it fails R96; the engine answers it with the
IllegalCommand error and nothing else (`delay` is the model's own field, log 2); the unassigned OP values are illegal. -/
def Obligations.IllegalWordsAreAnswered : Prop :=
  ∀ w : Word,
    ((∃ e, decode w = .error e) ↔
      ¬ ∃ row ∈ opcodeMap, w &&& row.mask = row.pattern ∧
        (row.mnemonic = "P.LOAD" → 1 ≤ w.toNat % 512 ∧ w.toNat % 512 ≤ 256)) ∧
    (∀ (s : State) (e : DecodeReject), s.engineMoves = true → s.cmd = w → decode w = .error e →
      step s = .next { s with
        status := { s.status with busy := false, err := .illegalCommand },
        errinfo0 := w, errinfo1 := 0#32, errcmd := w, cmdcnt := s.cmdcnt + 1#32, delay := 0 }) ∧
    (let op := w.toNat / 2 ^ 24
     (0x04 ≤ op ∧ op ≤ 0x0F) ∨ (0x17 ≤ op ∧ op ≤ 0x1F) ∨ (0x23 ≤ op ∧ op ≤ 0x2F) ∨ (0x35 ≤ op ∧ op ≤ 0x3F) ∨
       (0x4A ≤ op ∧ op ≤ 0x4F) ∨ (0x51 ≤ op ∧ op ≤ 0xFF) → decode w = .error .unassignedOpcode)

/-- R100: the example encodings, word by word. -/
def Obligations.ExampleEncodings : Prop :=
  decode 0x14201000#32 = .ok (.pMul 2 0 1) ∧ decode 0x15321000#32 = .ok (.pMod 3 2 1) ∧
  decode 0x1610000D#32 = .ok (.pGen 1 13#8) ∧ decode 0x1300000D#32 = .ok (.pShl 0 0 13#8) ∧
  decode 0x1100000D#32 = .ok (.pLoad 0 13#9) ∧ decode 0x12030000#32 = .ok (.pStore 3) ∧
  decode 0x31000008#32 = .ok (.bwPut 8#5) ∧ decode 0x33000002#32 = .ok (.bwSeg .byte) ∧
  decode 0x20000001#32 = .ok (.rsBlock 1#8) ∧ decode 0x4400000D#32 = .ok (.mxFmt 5 true) ∧
  decode 0x47000004#32 = .ok (.mxBuild 4 false) ∧ decode 0x45000001#32 = .ok (.mxVer true)

/-! ## Step, port and reset -/

/-- A step performs the decoded pending command; an idle engine with no input stays; otherwise the next input lands. An
accepted CMD write makes the word pending. What a step adds around exec is nothing (log 1, log 2, log 11). -/
def Obligations.StepRunsTheDecodedCommand : Prop :=
  (∀ (s : State) (i : Instr), s.rstN = true → s.status.busy = true → (s.delay = 0 ∨ s.inputs = []) →
    decode s.cmd = .ok i → step s = exec i s) ∧
  (∀ s : State, s.engineMoves = false → s.inputs = [] → step s = .next s) ∧
  (∀ (s : State) (i : Input) (rest : List Input), s.engineMoves = false → s.inputs = i :: rest →
    step s = { s with inputs := rest, delay := s.delay - 1 }.perform i) ∧
  (∀ (s : State) (w : Word) (rest : List Input), s.rstN = true → s.status.busy = false → s.ErrorFree →
    s.inputs = .write 4 0x0000C#20 w :: rest →
    ∃ d, step s = .next { s with
      inputs := rest, cmd := w, status := { s.status with busy := true }, delay := d, freeCount := s.freeCount + 1 })

/-- R231, R255, R99: a host that only waits sees the pending command performed. Within as many steps as the schedule
allows it is the engine's turn, nothing but the value read having changed; the next step performs the command (or answers
an illegal word) and leaves the engine idle; and the host's WAIT then reads BUSY = 0 and ends. The bound is the model's
schedule counter (log 2), of which the statement fixes no value; WAIT as an input of its own is log 1. -/
def Obligations.WaitingHostSeesTheCommandPerformed : Prop :=
  ∀ s : State, s.rstN = true → s.status.busy = true → (∀ i ∈ s.inputs, i = .wait) →
    ∃ (k : Nat) (t u : State), k ≤ s.delay ∧ Sys2Proof.core.run k s = .next t ∧ t.engineMoves = true ∧
      t = { s with delay := t.delay, rdata := t.rdata } ∧
      step t = .next u ∧ (∀ i, decode s.cmd = .ok i → exec i t = .next u) ∧
      (∀ e, decode s.cmd = .error e → u = t.errorEnd (.illegalCommand s.cmd)) ∧
      u.status.busy = false ∧ u.cmdcnt = s.cmdcnt + 1#32 ∧ u.inputs = s.inputs ∧
      ∀ rest, s.inputs = .wait :: rest →
        ∃ v, step u = .next v ∧ v = { u with inputs := rest, rdata := u.view .status } ∧ v.rdata.getLsbD 0 = false

/-- R236, R67: dropped writes set DROP and do nothing else; ignored writes do nothing; DROP does not move `irq`. That a
busy write to a read-only or unmapped location is dropped, and not ignored, is the model's reading of R67 and of R236 (a)
(DEDUCED, log 14): R236's own second sentence says of such writes that they do not set DROP. -/
def Obligations.DroppedAndIgnoredWrites : Prop :=
  ∀ (s : State) (loc : Location) (w : Word), s.rstN = true →
    (s.status.busy = true → ¬ (loc = .ctrl ∧ w.getLsbD 0 = true) → s.hostWrite loc w = drop s) ∧
    (s.status.busy = false → ¬ s.ErrorFree → s.hostWrite .cmd w = drop s) ∧
    (s.status.busy = false → readOnly loc = true → s.hostWrite loc w = s) ∧
    (drop s).irq = s.irq ∧ (drop s).status.err = s.status.err

/-- R67: what a busy engine answers, and what an engine in error answers. The unspecified value is the model's free value
(log 3), of which the statement fixes no value; that a busy write to a read-only location is dropped is log 14. -/
def Obligations.PortWhileBusyOrInError : Prop :=
  ∀ (s : State) (loc : Location) (w : Word), s.rstN = true →
    (s.status.busy = true →
      ((loc = .id ∨ loc = .ctrl ∨ loc = .status) → s.hostRead loc = { s with rdata := s.view loc }) ∧
      (¬ (loc = .id ∨ loc = .ctrl ∨ loc = .status) →
        s.hostRead loc = { s with rdata := Config.freeWord s.freeCount, freeCount := s.freeCount + 1 }) ∧
      (w.getLsbD 0 = true → s.hostWrite .ctrl w = s.engineReset) ∧
      (¬ (loc = .ctrl ∧ w.getLsbD 0 = true) → s.hostWrite loc w = drop s)) ∧
    (s.status.busy = false → ¬ s.ErrorFree →
      s.hostWrite .cmd w = drop s ∧
      s.hostRead loc = { s with rdata := s.view loc } ∧
      (loc ≠ .cmd →
        s.hostWrite loc w =
          let t := { s with status := { s.status with err := .none } }.hostWrite loc w
          if loc = .ctrl ∧ w.getLsbD 0 = true then t else { t with status := { t.status with err := s.status.err } }))

/-- R251 and R252: hard and soft reset put every readable location to its reset value, discard a pending command, and drop
`irq`; while `rst_n` is low nothing is written, reads are unspecified and the engine does not move. R251 says what holds
when `rst_n` rises: that `irq` is low and the state stands at its reset values already while the pin is low is the model's
reading (DEDUCED, log 5). The input list, the value last read and the count of free draws are the model's own fields
(log 1, log 6, log 3). -/
def Obligations.ResetsRestoreEverything : Prop :=
  ∀ s : State,
    (∃ low, s.perform .rstLow = .next low ∧ low.rstN = false ∧ low.irq = false ∧ low.engineMoves = false ∧
      (∀ loc w, low.hostWrite loc w = low) ∧
      (∀ loc, low.hostRead loc =
        { low with rdata := Config.freeWord low.freeCount, freeCount := low.freeCount + 1 }) ∧
      ∃ high, low.perform .rstHigh = .next high ∧
        high = { State.reset with rdata := s.rdata, inputs := s.inputs, freeCount := s.freeCount }) ∧
    (∀ w : Word, s.rstN = true → w.getLsbD 0 = true →
      s.hostWrite .ctrl w = { State.reset with rdata := s.rdata, inputs := s.inputs, freeCount := s.freeCount }) ∧
    (∀ loc, s.engineReset.view loc = State.reset.view loc) ∧ s.engineReset.irq = false

/-- R253: the reset values, as the host reads them, and the state behind them; the ROMs hold the powers of α and their
logarithms and read the same in every state. -/
def Obligations.ResetValues : Prop :=
  let z := State.reset
  z.view .id = 0x47465045#32 ∧ z.view .ctrl = 0#32 ∧ z.view .status = 0#32 ∧ z.view .cmd = 0#32 ∧
  z.view .arg0 = 0#32 ∧ z.view .arg1 = 0#32 ∧ z.view .result = 0#32 ∧ z.view .cmdcnt = 0#32 ∧
  z.view .errinfo0 = 0#32 ∧ z.view .errinfo1 = 0#32 ∧ z.view .errcmd = 0#32 ∧
  z.view .version = 1#32 ∧ z.view .eclevel = 2#32 ∧ z.view .blkcnt = 0#32 ∧ z.view .alncnt = 0#32 ∧
  z.view .bitlen = 0#32 ∧ z.view .cwlen = 0#32 ∧ z.view .modcnt = 0#32 ∧ z.view .masksel = 0#32 ∧
  z.view .penalty = 0#32 ∧ z.view .penA = 0#32 ∧ z.view .penB = 0#32 ∧ z.view .penC = 0#32 ∧ z.view .penD = 0#32 ∧
  z.view .darkcnt = 0#32 ∧ (∀ m < 8, z.view (.pentab m) = 0#32) ∧
  (∀ i : PReg, z.poly i = [0#8] ∧ z.view (.plen i.val) = 1#32) ∧
  z.view .cap0 = 0x01008028#32 ∧ z.view .cap1 = 0x20001000#32 ∧
  (∀ w < 128, z.view (.blktab w) = 0#32) ∧ (∀ w < 7, z.view (.alntab w) = 0#32) ∧
  (∀ w, z.view (.stage w) = 0#32 ∧ z.view (.bb w) = 0#32 ∧ z.view (.ecc w) = 0#32 ∧ z.view (.cw w) = 0#32) ∧
  z.bb = [] ∧ (∀ r c, z.grid.get r c = .unassigned) ∧ z.status.busy = false ∧ z.irq = false ∧
  (∀ (s : State) (w : Nat), s.view (.exp w) = z.view (.exp w) ∧ s.view (.log w) = z.view (.log w)) ∧
  (∀ i < 256, z.view (.exp i) = (alphaPow i).setWidth 32) ∧ z.view (.log 0) = 0#32 ∧
  (∀ i < 255, z.view (.log (alphaPow i).toNat) = Word.ofNat i)

/-- R26, R27 and R240: the layout of STATUS and of CTRL, STATUS's write-one-to-clear bits, the two enables a CTRL write
stores, the soft reset one with wdata[0] = 1 performs in every state with `rst_n` high, the interrupt line; no host write
but a soft reset changes ERR. -/
def Obligations.StatusWordAndInterrupt : Prop :=
  ∀ s : State,
    (s.view .status).getLsbD 0 = s.status.busy ∧ (s.view .status).getLsbD 1 = s.status.done ∧
    (s.view .status).getLsbD 2 = s.status.drop ∧ (s.view .status).extractLsb' 8 4 = s.status.err.code ∧
    (s.view .status).extractLsb' 3 5 = 0#5 ∧ (s.view .status).extractLsb' 12 20 = 0#20 ∧
    (s.irq = true ↔ (s.ieDone = true ∧ s.status.done = true) ∨ (s.ieErr = true ∧ ¬ s.ErrorFree)) ∧
    (∀ w : Word, s.rstN = true → s.status.busy = false →
      s.hostWrite .status w = { s with status := { s.status with
        done := s.status.done && !w.getLsbD 1, drop := s.status.drop && !w.getLsbD 2 } }) ∧
    (∀ (loc : Location) (w : Word), ¬ (loc = .ctrl ∧ w.getLsbD 0 = true) →
      (s.hostWrite loc w).status.err = s.status.err) ∧
    (s.view .ctrl).getLsbD 0 = false ∧ (s.view .ctrl).getLsbD 1 = s.ieDone ∧ (s.view .ctrl).getLsbD 2 = s.ieErr ∧
    (s.view .ctrl).extractLsb' 3 29 = 0#29 ∧
    (∀ w : Word, s.rstN = true → w.getLsbD 0 = true → s.hostWrite .ctrl w = s.engineReset) ∧
    (∀ w : Word, s.rstN = true → s.status.busy = false → w.getLsbD 0 = false →
      s.hostWrite .ctrl w = { s with ieDone := w.getLsbD 1, ieErr := w.getLsbD 2 })

/-- R25 and R63: what stands at every word of the address space. -/
def Obligations.AddressMap : Prop :=
  (∀ e ∈ registerMap, locate e.1 = e.2) ∧
  (∀ k < 8, locate (0x080 + 4 * k) = .pentab k ∧ locate (0x0A0 + 4 * k) = .plen k) ∧
  (∀ w < 7, locate (0x01000 + 4 * w) = .alntab w) ∧ (∀ w < 128, locate (0x01100 + 4 * w) = .blktab w) ∧
  (∀ w < 256, locate (0x02000 + 4 * w) = .exp w ∧ locate (0x02400 + 4 * w) = .log w) ∧
  (∀ i < 8, ∀ j < 256, locate (0x08000 + 4 * (256 * i + j)) = .poly i j) ∧
  (∀ w < 8192, locate (0x10000 + 4 * w) = .stage w) ∧
  (∀ w < 4096, locate (0x20000 + 4 * w) = .bb w ∧ locate (0x24000 + 4 * w) = .ecc w ∧
    locate (0x28000 + 4 * w) = .cw w) ∧
  (∀ r < 256, ∀ c < 256, locate (0x40000 + 4 * (256 * r + c)) = .grid r c) ∧
  (∀ a, (0x02C ≤ a ∧ a < 0x040) ∨ (0x078 ≤ a ∧ a < 0x080) ∨ (0x0C8 ≤ a ∧ a < 0x100) → locate a = .unmapped) ∧
  (∀ a, (0x00100 ≤ a ∧ a < 0x01000) ∨ (0x0101C ≤ a ∧ a < 0x01100) ∨ (0x01300 ≤ a ∧ a < 0x02000) ∨
    (0x02800 ≤ a ∧ a < 0x08000) ∨ (0x0A000 ≤ a ∧ a < 0x10000) ∨ (0x18000 ≤ a ∧ a < 0x20000) ∨
    (0x2C000 ≤ a ∧ a < 0x40000) ∨ 0x80000 ≤ a → locate a = .unmapped)

/-- A read changes no location, and of an idle engine it answers the location's word, also while an error stands (R69,
R71); a write to a writable location of an idle engine is read back there, its low bits stored
and the others 0, and no other location changes (R64, R69). -/
def Obligations.PortReadsAndWrites : Prop :=
  (∀ (s : State) (loc loc' : Location), (s.hostRead loc).view loc' = s.view loc') ∧
  (∀ (s : State) (loc : Location), s.rstN = true → s.status.busy = false →
    s.hostRead loc = { s with rdata := s.view loc }) ∧
  (∀ (s : State) (loc : Location) (w : Word) (k : Nat), s.rstN = true → s.status.busy = false →
    writable loc = some k →
    (s.hostWrite loc w).view loc = BitVec.ofNat 32 (w.toNat % 2 ^ k) ∧
    ∀ loc', loc' ≠ loc → (s.hostWrite loc w).view loc' = s.view loc')

/-! ## Whole-machine rules -/

/-- R231: every command ends its step, normally or with an error, counts once in CMDCNT and leaves the engine idle. -/
def Obligations.EveryCommandEnds : Prop :=
  ∀ (i : Instr) (s : State), ∃ t, exec i s = .next t ∧ t.status.busy = false ∧ t.status.drop = s.status.drop ∧
    t.cmdcnt = s.cmdcnt + 1#32 ∧
    ((t.status.done = true ∧ t.status.err = s.status.err ∧ t.errinfo0 = s.errinfo0 ∧ t.errinfo1 = s.errinfo1 ∧
        t.errcmd = s.errcmd) ∨
      (t.status.done = s.status.done ∧ ¬ t.ErrorFree ∧ t.errcmd = s.cmd))

/-- R233: an error end writes ERR, ERRINFO0, ERRINFO1 and ERRCMD. A command other than a composed one changes nothing
else; a composed one leaves unspecified only the locations of its Writes list (the model draws them, log 4). -/
def Obligations.ErrorEndChangesOnlyWhatItMay : Prop :=
  ∀ (i : Instr) (s t : State), s.ErrorFree → exec i s = .next t → ¬ t.ErrorFree →
    ∃ e : EngineError,
      t.status = { s.status with busy := false, err := e.code } ∧ t.errinfo0 = e.info0 ∧ t.errinfo1 = e.info1 ∧
      t.errcmd = s.cmd ∧
      (composed i = false →
        t = { s with
          status := t.status, errinfo0 := t.errinfo0, errinfo1 := t.errinfo1, errcmd := s.cmd,
          cmdcnt := s.cmdcnt + 1#32, delay := 0 }) ∧
      (∀ m trial, i = .mxBuild m trial →
        t = { s.errorEnd e with
          modcnt := t.modcnt, grid := t.grid, result := t.result, freeCount := t.freeCount }) ∧
      (i = .mxSel →
        t = { s.errorEnd e with
          modcnt := t.modcnt, grid := t.grid, result := t.result, freeCount := t.freeCount,
          pentab := t.pentab, masksel := t.masksel, penalty := t.penalty,
          penA := t.penA, penB := t.penB, penC := t.penC, penD := t.penD, darkcnt := t.darkcnt }) ∧
      (i = .qBuild →
        t = { s.errorEnd e with
          modcnt := t.modcnt, grid := t.grid, result := t.result, freeCount := t.freeCount,
          pentab := t.pentab, masksel := t.masksel, penalty := t.penalty,
          penA := t.penA, penB := t.penB, penC := t.penC, penD := t.penD, darkcnt := t.darkcnt,
          bb := t.bb, bitlen := t.bitlen, ecc := t.ecc, cw := t.cw, cwlen := t.cwlen })

/-- R13: "state not listed is unchanged", for every command: no command writes configuration, operands, the tables or CTRL,
and each other piece of state is written only by the commands whose Writes list names it. -/
def Obligations.CommandsChangeOnlyTheirWritesLists : Prop :=
  ∀ (i : Instr) (s t : State), exec i s = .next t →
    (t.rstN = s.rstN ∧ t.inputs = s.inputs ∧ t.rdata = s.rdata ∧ t.ieDone = s.ieDone ∧ t.ieErr = s.ieErr ∧
      t.status.drop = s.status.drop ∧ t.cmd = s.cmd ∧ t.arg0 = s.arg0 ∧ t.arg1 = s.arg1 ∧ t.version = s.version ∧
      t.eclevel = s.eclevel ∧ t.blkcnt = s.blkcnt ∧ t.alncnt = s.alncnt ∧ t.blktab = s.blktab ∧
      t.alntab = s.alntab) ∧
    (writesResult i = false → t.result = s.result) ∧
    (∀ j : PReg, destination i ≠ some j → t.poly j = s.poly j) ∧
    (writesStage i = false → t.stage = s.stage) ∧
    (writesBuffer i = false → t.bb = s.bb ∧ t.bitlen = s.bitlen) ∧
    (writesEcc i = false → t.ecc = s.ecc) ∧
    (writesCw i = false → t.cw = s.cw ∧ t.cwlen = s.cwlen) ∧
    (writesModcnt i = false → t.modcnt = s.modcnt) ∧
    (writesGrid i = false → t.grid = s.grid) ∧
    (writesPenalty i = false → t.penalty = s.penalty ∧ t.penA = s.penA ∧ t.penB = s.penB ∧ t.penC = s.penC ∧
      t.penD = s.penD ∧ t.darkcnt = s.darkcnt) ∧
    (writesSelection i = false → t.pentab = s.pentab ∧ t.masksel = s.masksel) ∧
    (composed i = false → t.freeCount = s.freeCount)

/-- R66: the machine has no meaning only for a host access that is not an aligned 32-bit access; there it is refused. -/
def Obligations.OnlyAccessesOutsideTheInterfaceAreRefused : Prop :=
  ∀ s : State,
    let outside := s.engineMoves = false ∧ ∃ (bytes : Nat) (addr : BitVec 20) (rest : List Input),
      (s.inputs = .read bytes addr :: rest ∨ ∃ w, s.inputs = .write bytes addr w :: rest) ∧
        ¬ (bytes = 4 ∧ addr.toNat % 4 = 0)
    (outside → step s = .refused .accessOutsideInterface) ∧ (¬ outside → ∃ t, step s = .next t)

/-! ## The invariant -/

/-- The reset state meets the invariant. -/
def Obligations.ResetMeetsTheInvariant : Prop := State.reset.Inv

/-- Every step keeps the invariant: canonical memories and grid, normalized polynomial registers, the latched dimension a
legal one, BITLEN the length of BB, a command pending only in an error-free engine out of reset. The clauses on canonical
form, on `delay` and on the held reset are the model's (log 10, log 2, log 5). -/
def Obligations.StepKeepsTheInvariant : Prop := ∀ s t : State, s.Inv → step s = .next t → t.Inv

/-- Every step keeps ECC inside its 4096 bytes: no block stores more correction codewords than its descriptor gives. -/
def Obligations.StepKeepsEccInRange : Prop :=
  ∀ s t : State, s.Inv → s.ecc.within 4096 = true → step s = .next t → t.ecc.within 4096 = true

/-! ## GF(256) -/

/-- R126: GF.EXP completes on every ARG0 with α to the signed exponent, reduced modulo 255. -/
def Obligations.GfExpIsAPowerOfAlpha : Prop :=
  ∀ s : State,
    exec .gfExp s = .next
      ({ s with result := (alphaPow (s.arg0.toInt % 255).toNat).setWidth 32 }).normalEnd

/-- R127: GF.LOG completes on 1..255 with the discrete logarithm, below 255; any other ARG0 is a domain error. -/
def Obligations.GfLogIsTheDiscreteLogarithm : Prop :=
  ∀ s : State,
    (1 ≤ s.arg0.toInt → s.arg0.toInt ≤ 255 →
      ∃ l < 255, exec .gfLog s = .next ({ s with result := Word.ofNat l }).normalEnd ∧
        (alphaPow l).toNat = s.arg0.toNat) ∧
    (s.arg0.toInt < 1 ∨ 255 < s.arg0.toInt →
      exec .gfLog s = .next (s.errorEnd (.fieldArithmeticDomainError s.arg0)))

/-- R128: GF.MUL completes on 0..255 with the product in the field of 0x11D, computed here without logarithms; an operand
outside is a domain error, ARG0 first. -/
def Obligations.GfMulIsTheFieldProduct : Prop :=
  ∀ s : State,
    (0 ≤ s.arg0.toInt → s.arg0.toInt ≤ 255 → 0 ≤ s.arg1.toInt → s.arg1.toInt ≤ 255 →
      exec .gfMul s = .next
        ({ s with result := (fieldProduct (s.arg0.setWidth 8) (s.arg1.setWidth 8)).setWidth 32 }).normalEnd) ∧
    (s.arg0.toInt < 0 ∨ 255 < s.arg0.toInt →
      exec .gfMul s = .next (s.errorEnd (.fieldArithmeticDomainError s.arg0))) ∧
    (0 ≤ s.arg0.toInt → s.arg0.toInt ≤ 255 → s.arg1.toInt < 0 ∨ 255 < s.arg1.toInt →
      exec .gfMul s = .next (s.errorEnd (.fieldArithmeticDomainError s.arg1)))

/-- R129: the laws (a) to (e) of the element primitives. -/
def Obligations.FieldLaws : Prop :=
  (∀ x : Byte, x ≠ 0#8 → gexp (glog x) = x) ∧ (∀ i < 255, glog (gexp (i : Nat)) = i) ∧
  (∀ x : Int, gexp (x + 255) = gexp x) ∧
  (∀ a b c : Byte, gmul a b = gmul b a ∧ gmul (gmul a b) c = gmul a (gmul b c) ∧ gmul 1#8 a = a ∧
    (gmul a b = 0#8 → a = 0#8 ∨ b = 0#8) ∧ gmul a (b ^^^ c) = gmul a b ^^^ gmul a c) ∧
  (∀ a : Byte, a ≠ 0#8 → gmul a (gexp (255 - (glog a : Int))) = 1#8)

/-! ## Control and polynomials -/

/-- R226 and R141: NOP only completes (`delay` is the model's own field, log 2), and no other word with its OP is a
command; P.CLR writes the zero polynomial, of length 1, to its register. -/
def Obligations.NopAndPClr : Prop :=
  (∀ s : State, exec .nop s = .next { s with
    status := { s.status with busy := false, done := true }, cmdcnt := s.cmdcnt + 1#32, delay := 0 }) ∧
  (∀ w : Word, w.toNat / 2 ^ 24 = 0 → w ≠ 0#32 → decode w = .error .mustBeZero) ∧
  (∀ (s : State) (d : PReg), exec (.pClr d) s = .next (s.setPoly d [0#8]).normalEnd ∧
    (s.setPoly d [0#8]).view (.plen d.val) = 1#32 ∧ (s.setPoly d [0#8]).poly d = [0#8])

/-- R142: P.LOAD completes on a range inside STAGE with its bytes less the leading zeros, and reports a range that leaves
STAGE. -/
def Obligations.PLoadStripsLeadingZeros : Prop :=
  ∀ (s : State) (d : PReg) (len : BitVec 9), 1 ≤ len.toNat → len.toNat ≤ 256 →
    (s.arg0.toNat + len.toNat ≤ 8192 →
      ∃ k q, exec (.pLoad d len) s = .next (s.setPoly d q).normalEnd ∧ polyOk q = true ∧
        (s.setPoly d q).poly d = q ∧ k < len.toNat ∧ (∀ j < k, s.stage.read (s.arg0.toNat + j) = 0#8) ∧
        q = (List.range (len.toNat - k)).map (fun j => s.stage.read (s.arg0.toNat + k + j))) ∧
    (8192 < s.arg0.toNat + len.toNat →
      exec (.pLoad d len) s = .next (s.errorEnd (.invalidParameter .stageRange s.arg0)))

/-- R143: P.STORE completes on a range inside STAGE: its bytes are the coefficients, every other byte of STAGE reads as
before, RESULT is the length. -/
def Obligations.PStoreWritesOnlyItsRange : Prop :=
  ∀ (s : State) (a : PReg),
    let len := (s.poly a).length
    (s.arg0.toNat + len ≤ 8192 →
      ∃ m, exec (.pStore a) s = .next ({ s with stage := m, result := Word.ofNat len }).normalEnd ∧
        ∀ b, m.read b = if s.arg0.toNat ≤ b ∧ b < s.arg0.toNat + len then (s.poly a).getD (b - s.arg0.toNat) 0#8
          else s.stage.read b) ∧
    (8192 < s.arg0.toNat + len → exec (.pStore a) s = .next (s.errorEnd (.invalidParameter .stageRange s.arg0)))

/-- R144: P.SHL completes with n zero coefficients appended; the zero polynomial stays; too long a result is an error. -/
def Obligations.PShlAppendsZeros : Prop :=
  ∀ (s : State) (d a : PReg) (n : BitVec 8),
    (s.poly a = [0#8] → exec (.pShl d a n) s = .next (s.setPoly d [0#8]).normalEnd) ∧
    (s.poly a ≠ [0#8] → (s.poly a).length + n.toNat ≤ 256 →
      exec (.pShl d a n) s = .next (s.setPoly d (s.poly a ++ List.replicate n.toNat 0#8)).normalEnd) ∧
    (s.poly a ≠ [0#8] → 256 < (s.poly a).length + n.toNat →
      exec (.pShl d a n) s
        = .next (s.errorEnd (.resourceOverflow .polynomialLength (Word.ofNat ((s.poly a).length + n.toNat)))))

/-- R138 and R145: P.MUL completes with the convolution, coefficient by coefficient; a zero operand gives [0]; a product
longer than 256 is an error. -/
def Obligations.PMulIsTheConvolution : Prop :=
  ∀ (s : State) (d a b : PReg), polyOk (s.poly a) = true → polyOk (s.poly b) = true →
    let x := s.poly a
    let y := s.poly b
    (x = [0#8] ∨ y = [0#8] → exec (.pMul d a b) s = .next (s.setPoly d [0#8]).normalEnd) ∧
    (x ≠ [0#8] → y ≠ [0#8] → x.length + y.length - 1 ≤ 256 →
      ∃ q, exec (.pMul d a b) s = .next (s.setPoly d q).normalEnd ∧ q.length = x.length + y.length - 1 ∧
        ∀ k < q.length, q.getD k 0#8 = productCoeff x y k) ∧
    (x ≠ [0#8] → y ≠ [0#8] → 256 < x.length + y.length - 1 →
      exec (.pMul d a b) s
        = .next (s.errorEnd (.resourceOverflow .polynomialLength (Word.ofNat (x.length + y.length - 1)))))

/-- R146, R148 (a), (b): P.MOD completes for a divisor other than [0] with a normalized remainder of lower degree, which
a second reduction leaves alone; the zero divisor is a domain error. -/
def Obligations.PModLeavesALowerDegree : Prop :=
  ∀ (s : State) (d a b : PReg), polyOk (s.poly a) = true → polyOk (s.poly b) = true →
    (s.poly b = [0#8] → exec (.pMod d a b) s = .next (s.errorEnd (.fieldArithmeticDomainError 0#32))) ∧
    (s.poly b ≠ [0#8] →
      ∃ r, exec (.pMod d a b) s = .next (s.setPoly d r).normalEnd ∧ polyOk r = true ∧
        (r = [0#8] ∨ r.length < (s.poly b).length) ∧ r.length ≤ (s.poly a).length ∧
        ((s.poly a).length < (s.poly b).length → r = s.poly a) ∧ pmod r (s.poly b) = r)

/-- R139, R146: what P.MOD writes is the remainder: the dividend is a multiple of the divisor plus it, coefficient by
coefficient. With the degree bound of PModLeavesALowerDegree this fixes the remainder. -/
def Obligations.PModIsTheRemainder : Prop :=
  ∀ (s : State) (d a b : PReg), polyOk (s.poly a) = true → polyOk (s.poly b) = true → s.poly b ≠ [0#8] →
    (s.poly b).length ≤ (s.poly a).length →
    ∃ q r, exec (.pMod d a b) s = .next (s.setPoly d r).normalEnd ∧
      q.length + (s.poly b).length = (s.poly a).length + 1 ∧ r.length ≤ (s.poly a).length ∧
      ∀ k < (s.poly a).length, (s.poly a).getD k 0#8
        = productCoeff q (s.poly b) k ^^^ (List.replicate ((s.poly a).length - r.length) 0#8 ++ r).getD k 0#8

/-- R140, R147: P.GEN completes for every n with a monic polynomial of n+1 coefficients whose roots are α^0 .. α^(n-1). -/
def Obligations.PGenHasTheGeneratorsRoots : Prop :=
  ∀ (s : State) (d : PReg) (n : BitVec 8),
    ∃ g, exec (.pGen d n) s = .next (s.setPoly d g).normalEnd ∧ g.length = n.toNat + 1 ∧ g.head? = some 1#8 ∧
      polyOk g = true ∧ ∀ i < n.toNat, eval g (alphaPow i) = 0#8

/-! ## Bit writer and segments -/

/-- R113, R114, R115: BW.RST empties the buffer; BW.PUT and BW.BIT append their bits, MSB first, or report the buffer
full and append nothing. -/
def Obligations.BitWriterAppends : Prop :=
  ∀ s : State,
    exec .bwRst s = .next ({ s with bb := [], bitlen := 0#32 }).normalEnd ∧
    (∀ n : BitVec 5,
      (s.bb.length + n.toNat ≤ 32768 →
        ∃ bits, exec (.bwPut n) s
            = .next ({ s with bb := s.bb ++ bits, bitlen := Word.ofNat (s.bb.length + n.toNat) }).normalEnd ∧
          bits.length = n.toNat ∧ ∀ i < n.toNat, bits[i]? = some (s.arg0.getLsbD (n.toNat - 1 - i))) ∧
      (32768 < s.bb.length + n.toNat →
        exec (.bwPut n) s
          = .next (s.errorEnd (.resourceOverflow .bitBuffer (Word.ofNat (s.bb.length + n.toNat)))))) ∧
    (∀ b : Bool,
      (s.bb.length + 1 ≤ 32768 →
        exec (.bwBit b) s
          = .next ({ s with bb := s.bb ++ [b], bitlen := Word.ofNat (s.bb.length + 1) }).normalEnd) ∧
      (32768 < s.bb.length + 1 →
        exec (.bwBit b) s = .next (s.errorEnd (.resourceOverflow .bitBuffer (Word.ofNat (s.bb.length + 1))))))

/-- R36 and R112: bit 8k+j of the buffer is bit 7-j of byte k, 0 past the end; the bits of a field read back as its value
modulo 2^n. -/
def Obligations.ByteViewAndFieldBits : Prop :=
  (∀ (bb : List Bool) (k j : Nat), j < 8 → (bbByte bb k).getLsbD (7 - j) = bb.getD (8 * k + j) false) ∧
  (∀ v n : Nat, (bitsMsbFirst v n).length = n ∧ numberOfBits (bitsMsbFirst v n) = v % 2 ^ n)

/-- R163: a BW.SEG whose VERSION, range, bytes and capacity pass completes: mode indicator, count modulo 2^W, and a
payload that says what R159-R162 say. -/
def Obligations.BwSegAppendsTheSegment : Prop :=
  ∀ (mode : SegMode) (s : State), versionOk s → s.arg0.toNat + s.arg1.toNat ≤ 8192 → segmentOk mode s →
    let n := s.arg1.toNat
    let w := widthTable mode s.version.toNat
    let total := 4 + w + payloadLength mode n
    s.bb.length + total ≤ 32768 →
    ∃ header payload,
      exec (.bwSeg mode) s = .next ({ s with
        bb := s.bb ++ header ++ payload, bitlen := Word.ofNat (s.bb.length + total) }).normalEnd ∧
      header.length = 4 + w ∧ payload.length = payloadLength mode n ∧
      fieldAt header 0 4 = (match mode with | .numeric => 1 | .alphanumeric => 2 | .byte => 4 | .kanji => 8) ∧
      fieldAt header 4 w = (match mode with | .kanji => n / 2 | _ => n) % 2 ^ w ∧
      payloadOk mode s payload

/-- R164: the payload lengths of the four modes, and the header BW.SEG adds. -/
def Obligations.SegmentBitLengths : Prop :=
  ∀ (mode : SegMode) (v : Nat) (bytes : List Byte), 1 ≤ v → v ≤ 40 →
    (mode = .kanji → bytes.length % 2 = 0) →
    (bitsOfFields (segmentPayload mode bytes)).length = payloadLength mode bytes.length ∧
    (bitsOfFields (segmentFields mode v bytes)).length
      = 4 + widthTable mode v + payloadLength mode bytes.length

/-- R163: the errors of BW.SEG in their order; the lowest bad byte or pair is reported, a bad pair before a trailing odd
byte, and a failing command appends nothing. -/
def Obligations.BwSegReportsTheFirstError : Prop :=
  ∀ (mode : SegMode) (s : State),
    let fails := fun e => exec (.bwSeg mode) s = .next (s.errorEnd e)
    (¬ versionOk s → fails (.invalidParameter .version (s.version.setWidth 32))) ∧
    (versionOk s → 8192 < s.arg0.toNat + s.arg1.toNat → fails (.invalidParameter .stageRange s.arg0)) ∧
    (versionOk s → s.arg0.toNat + s.arg1.toNat ≤ 8192 →
      (∀ k < s.arg1.toNat, mode = .numeric → (∀ j < k, 0x30 ≤ segByte s j ∧ segByte s j ≤ 0x39) →
        ¬ (0x30 ≤ segByte s k ∧ segByte s k ≤ 0x39) →
        fails (.invalidCharacter (Word.ofNat (segByte s k)) (Word.ofNat (s.arg0.toNat + k)))) ∧
      (∀ k < s.arg1.toNat, mode = .alphanumeric → (∀ j < k, segByte s j ∈ alphabet) → segByte s k ∉ alphabet →
        fails (.invalidCharacter (Word.ofNat (segByte s k)) (Word.ofNat (s.arg0.toNat + k)))) ∧
      (∀ k, k + 1 < s.arg1.toNat → k % 2 = 0 → mode = .kanji → (∀ j < k, j % 2 = 0 → kanjiOk (segPair s j)) →
        ¬ kanjiOk (segPair s k) →
        fails (.invalidCharacter (Word.ofNat (segPair s k)) (Word.ofNat (s.arg0.toNat + k)))) ∧
      (mode = .kanji → s.arg1.toNat % 2 = 1 →
        (∀ j, j + 1 < s.arg1.toNat → j % 2 = 0 → kanjiOk (segPair s j)) →
        fails (.invalidCharacter (Word.ofNat (segByte s (s.arg1.toNat - 1)))
          (Word.ofNat (s.arg0.toNat + s.arg1.toNat - 1)))) ∧
      (segmentOk mode s →
        32768 < s.bb.length + 4 + widthTable mode s.version.toNat + payloadLength mode s.arg1.toNat →
        fails (.resourceOverflow .bitBuffer
          (Word.ofNat (s.bb.length + 4 + widthTable mode s.version.toNat + payloadLength mode s.arg1.toNat)))))

/-! ## Codeword assembler -/

/-- R172, R235: the block-table checks, in order, of every command that uses the table. RS.BLOCK checks its index between
the table's parameters and the sum of tc, parameters first as R235 and D11 order them; R175 lists the sum first, and where
both fail the statement rests on the model's reading (DEDUCED, log 19). -/
def Obligations.BlockTableChecks : Prop :=
  ∀ (i : Instr) (s : State) (e : EngineError),
    let count := s.blkcnt.toNat
    let cause :=
      ((count = 0 ∨ 128 < count) ∧ e = .invalidParameter .blockTable 0xFFFFFFFF#32) ∨
      (1 ≤ count ∧ count ≤ 128 ∧ ∃ k < count, (∀ j < k, descriptorOk s j) ∧ ¬ descriptorOk s k ∧
        e = .invalidParameter .blockTable (Word.ofNat k)) ∨
      (1 ≤ count ∧ count ≤ 128 ∧ (∀ k < count, descriptorOk s k) ∧ 4096 < sumBelow (tc s) count ∧
        e = .resourceOverflow .codewordMemory (Word.ofNat (sumBelow (tc s) count)))
    cause →
    ((i = .bwFin ∨ i = .rsAll ∨ i = .cwIlv) → exec i s = .next (s.errorEnd e)) ∧
    (∀ k, i = .rsBlock k →
      (e.code = .invalidParameter ∨ k.toNat < count → exec i s = .next (s.errorEnd e)) ∧
      (e.code = .resourceOverflow → count ≤ k.toNat →
        exec i s = .next (s.errorEnd (.invalidParameter .blockIndex (k.setWidth 32))))) ∧
    (i = .qBuild → reports i s e)

/-- R173, R174: BW.FIN completes when the stream fits: exactly totalDataBits bits, the old bits first, zeros to the byte
boundary past the terminator, then 0xEC and 0x11 in turn; a longer stream is a capacity error with both values. -/
def Obligations.BwFinPadsToCapacity : Prop :=
  ∀ s : State, tableOk s →
    let len := s.bb.length
    let cap := 8 * sumBelow (dc s) s.blkcnt.toNat
    let first := (len + (if 4 ≤ cap - len then 4 else 0) + 7) / 8
    (len ≤ cap →
      ∃ bits, exec .bwFin s = .next ({ s with bb := bits, bitlen := Word.ofNat cap }).normalEnd ∧
        bits.length = cap ∧ bits.take len = s.bb ∧
        (∀ j, len ≤ j → j < 8 * first → bits.getD j false = false) ∧
        (∀ k, 8 * (first + k) < cap → bbByte bits (first + k) = if k % 2 = 0 then 0xEC#8 else 0x11#8)) ∧
    (cap < len →
      exec .bwFin s = .next (s.errorEnd (.capacityOverflow (Word.ofNat len) (Word.ofNat cap))))

/-- R175: RS.BLOCK completes for a block of the table: exactly ec_k bytes of ECC are written, every other byte reads as
before, RESULT is ec_k, no polynomial register changes; the bytes are the ec_k that make the block's data followed by them
vanish at every root of the generator, which is the remainder of the shifted data polynomial. A block index past the table
is an error. -/
def Obligations.RsBlockStoresItsCodewords : Prop :=
  ∀ (s : State) (k : BitVec 8), tableOk s →
    (k.toNat < s.blkcnt.toNat →
      let off := sumBelow (ec s) k.toNat
      ∃ (m : Memory) (e : List Byte),
        exec (.rsBlock k) s = .next ({ s with ecc := m, result := Word.ofNat (ec s k.toNat) }).normalEnd ∧
        e.length = ec s k.toNat ∧ (∀ i < ec s k.toNat, eval (blockBytes s k.toNat ++ e) (alphaPow i) = 0#8) ∧
        ∀ b, m.read b = if off ≤ b ∧ b < off + ec s k.toNat then e.getD (b - off) 0#8 else s.ecc.read b) ∧
    (s.blkcnt.toNat ≤ k.toNat →
      exec (.rsBlock k) s = .next (s.errorEnd (.invalidParameter .blockIndex (k.setWidth 32))))

/-- R175, R178 (b): a block's data followed by its correction codewords vanishes at every root of the generator: it is a
Reed-Solomon codeword. -/
def Obligations.BlockWithItsCodewordsIsACodeword : Prop :=
  ∀ (data : List Byte) (n : Nat), n ≤ 255 →
    (correctionCodewords data n).length = n ∧
    ∀ i < n, eval (data ++ correctionCodewords data n) (alphaPow i) = 0#8

/-- R176: RS.ALL completes with every block's codewords back to back in ECC, every later byte as before, and the number
of codewords in RESULT; each block's codewords are those of R175. -/
def Obligations.RsAllStoresEveryBlock : Prop :=
  ∀ s : State, tableOk s →
    let total := sumBelow (ec s) s.blkcnt.toNat
    ∃ (m : Memory) (e : Nat → List Byte),
      exec .rsAll s = .next ({ s with ecc := m, result := Word.ofNat total }).normalEnd ∧
      (∀ k < s.blkcnt.toNat, (e k).length = ec s k ∧
        (∀ i < ec s k, eval (blockBytes s k ++ e k) (alphaPow i) = 0#8) ∧
        ∀ i < ec s k, m.read (sumBelow (ec s) k + i) = (e k).getD i 0#8) ∧
      (∀ b, total ≤ b → m.read b = s.ecc.read b)

/-- R177, R178 (c): CW.ILV completes with a stream of sum tc_k codewords that permutes the data and the correction
codewords, zeros after it: each position of each block at its column-major place. -/
def Obligations.CwIlvInterleaves : Prop :=
  ∀ s : State, tableOk s →
    let count := s.blkcnt.toNat
    let data := (List.range count).flatMap (blockBytes s)
    let check := (List.range count).flatMap (blockEccBytes s)
    ∃ stream, exec .cwIlv s = .next ({ s with
        cw := Memory.ofBytes stream, cwlen := Word.ofNat (sumBelow (tc s) count) }).normalEnd ∧
      stream.length = sumBelow (tc s) count ∧ (stream.take data.length).Perm data ∧
      (stream.drop data.length).Perm check ∧
      (∀ b, (Memory.ofBytes stream).read b = stream.getD b 0#8) ∧
      ∀ k < count,
        (∀ i < dc s k, stream.getD (slot (dc s) count i k) 0#8 = (blockBytes s k).getD i 0#8) ∧
        (∀ i < ec s k,
          stream.getD (sumBelow (dc s) count + slot (ec s) count i k) 0#8 = (blockEccBytes s k).getD i 0#8)

/-! ## Matrix layout -/

/-- R187: MX.CLR latches the dimension of VERSION and clears every cell; a VERSION outside 1..40 is an error. -/
def Obligations.MxClrLatchesTheDimension : Prop :=
  ∀ s : State,
    (versionOk s → ∃ g, exec .mxClr s = .next ({ s with
        modcnt := Word.ofNat (4 * s.version.toNat + 17), grid := g }).normalEnd ∧
      ∀ r c, g.get r c = .unassigned) ∧
    (¬ versionOk s → exec .mxClr s = .next (s.errorEnd (.invalidParameter .version (s.version.setWidth 32))))

/-- R186: the MX commands that need a grid report InvalidParameter(4, 0) without one; a VERSION write changes neither the
latched dimension nor a cell. -/
def Obligations.GridRequired : Prop :=
  ∀ s : State,
    (s.modcnt = 0#32 → ∀ i : Instr,
      (i = .mxFnd ∨ i = .mxAln ∨ i = .mxTim ∨ (∃ m t, i = .mxFmt m t) ∨ (∃ t, i = .mxVer t) ∨ (∃ m, i = .mxMap m) ∨
        i = .mxPen) →
      exec i s = .next (s.errorEnd (.invalidParameter .grid 0#32))) ∧
    (∀ w, (s.hostWrite .version w).modcnt = s.modcnt ∧ (s.hostWrite .version w).grid = s.grid)

/-- R188, R190: MX.FND completes with the three finder patterns and their separators, by rings around their centres;
every other cell is as before. -/
def Obligations.MxFndPaintsThreeCorners : Prop :=
  ∀ s : State, hasGrid s →
    ∃ g, exec .mxFnd s = .next ({ s with grid := g }).normalEnd ∧
      ∀ r c, g.get r c = match finderCell (dim s) r c with
        | some dark => moduleOfDark dark
        | none => s.grid.get r c

/-- R191, R192: MX.ALN completes when every entry lies in 2..N-3: pair by pair in row-major order it paints the 5x5 square
of every centre that is unassigned when its turn comes; so it changes no cell farther than 2 from a centre, leaves every
centre assigned, and changes nothing when every centre was assigned; the lowest entry outside the range is reported. -/
def Obligations.MxAlnPaintsAtUnassignedCentres : Prop :=
  ∀ s : State, hasGrid s →
    let count := s.alncnt.toNat
    (centresOk s (dim s) →
      ∃ g, exec .mxAln s = .next ({ s with grid := g }).normalEnd ∧
        (∀ r c, (∀ i < count, ∀ j < count, ¬ (gap r (aln s i) ≤ 2 ∧ gap c (aln s j) ≤ 2)) →
          g.get r c = s.grid.get r c) ∧
        (∀ i < count, ∀ j < count, g.get (aln s i) (aln s j) ≠ .unassigned) ∧
        ((∀ i < count, ∀ j < count, s.grid.get (aln s i) (aln s j) ≠ .unassigned) → g = s.grid) ∧
        (∀ r c, g.get r c = alignFrom (centrePairs s) s.grid.get r c)) ∧
    (∀ i < count, (∀ j < i, centreOk s (dim s) j) → ¬ centreOk s (dim s) i →
      exec .mxAln s = .next (s.errorEnd (.invalidParameter .alnTab (Word.ofNat i))))

/-- R193: MX.TIM completes: every unassigned cell of row 6 and column 6 takes the parity of its index, dark at even; every
other cell is as before. -/
def Obligations.MxTimFillsRowAndColumnSix : Prop :=
  ∀ s : State, hasGrid s →
    ∃ g, exec .mxTim s = .next ({ s with grid := g }).normalEnd ∧
      ∀ r c, g.get r c =
        if s.grid.get r c = .unassigned ∧ r < dim s ∧ c < dim s ∧ (r = 6 ∨ c = 6) then
          moduleOfDark ((if c = 6 then r else c) % 2 == 0)
        else s.grid.get r c

/-- R194, R197: the 32 format words and the 34 version words, as the spec tabulates them. -/
def Obligations.FormatAndVersionWords : Prop :=
  (∀ (e : BitVec 2) (m : MaskId), formatBits e m = formatWord e.toNat m.val) ∧
  (∀ k < 34, versionBits (7 + k) = versionWord (7 + k))

/-- R194, R195, R196: MX.FMT completes: bit i of the tabulated format word at its two cells, light in trial mode, the
dark module at (N-8, 8), every other cell as before. -/
def Obligations.MxFmtPaintsTheFormatCells : Prop :=
  ∀ (s : State) (m : MaskId) (trial : Bool), hasGrid s →
    let n := dim s
    let bit := fun i => moduleOfDark (!trial && (formatWord s.eclevel.toNat m.val).testBit i)
    ∃ g, exec (.mxFmt m trial) s = .next ({ s with grid := g }).normalEnd ∧
      (∀ i ≤ 5, g.get i 8 = bit i ∧ g.get 8 (n - 1 - i) = bit i) ∧
      g.get 7 8 = bit 6 ∧ g.get 8 (n - 7) = bit 6 ∧ g.get 8 8 = bit 7 ∧ g.get 8 (n - 8) = bit 7 ∧
      g.get (n - 7) 8 = bit 8 ∧ g.get 8 7 = bit 8 ∧
      (∀ i, 9 ≤ i → i ≤ 14 → g.get (n - 15 + i) 8 = bit i ∧ g.get 8 (14 - i) = bit i) ∧
      g.get (n - 8) 8 = .dark ∧
      (∀ r c, ¬ (c = 8 ∧ r ≠ 6 ∧ (r ≤ 8 ∨ (n - 8 ≤ r ∧ r < n))) →
        ¬ (r = 8 ∧ c ≠ 6 ∧ (c ≤ 8 ∨ (n - 8 ≤ c ∧ c < n))) → g.get r c = s.grid.get r c)

/-- R197, R198: MX.VER completes: below version 7 it only completes; from version 7 on bit i of the tabulated version word
stands at its two cells, light in trial mode, and every other cell is as before. -/
def Obligations.MxVerPaintsTheVersionBlocks : Prop :=
  ∀ (s : State) (trial : Bool), hasGrid s →
    let n := dim s
    let v := (n - 17) / 4
    (v < 7 → exec (.mxVer trial) s = .next s.normalEnd) ∧
    (7 ≤ v →
      ∃ g, exec (.mxVer trial) s = .next ({ s with grid := g }).normalEnd ∧
        (∀ i < 18,
          let b := moduleOfDark (!trial && (versionWord v).testBit i)
          g.get (i / 3) (n - 11 + i % 3) = b ∧ g.get (n - 11 + i % 3) (i / 3) = b) ∧
        (∀ r c, ¬ (r ≤ 5 ∧ n - 11 ≤ c ∧ c ≤ n - 9) → ¬ (c ≤ 5 ∧ n - 11 ≤ r ∧ r ≤ n - 9) →
          g.get r c = s.grid.get r c))

/-- R200: the placement path is the zig-zag loop, and visits every cell outside column 6 exactly once. -/
def Obligations.PathIsTheZigZag : Prop :=
  ∀ n : Nat, legalDimension n = true → n ≠ 0 →
    path n = walk n (n * n) ((n : Int) - 1) ((n : Int) - 1) (-1) ∧ (path n).Nodup ∧
    (∀ r c, (r, c) ∈ path n ↔ r < n ∧ c < n ∧ c ≠ 6)

/-- R199, R200, R201: MX.MAP completes and is the sequential loop over the zig-zag path: the grid and the count of data
modules are the loop's; every cell outside column 6 is then assigned, and a cell assigned before keeps its code. -/
def Obligations.MxMapIsTheSequentialLoop : Prop :=
  ∀ (s : State) (m : MaskId), hasGrid s →
    let n := dim s
    let loop := (walk n (n * n) ((n : Int) - 1) ((n : Int) - 1) (-1)).foldl (mapVisit s m) (s.grid, 0)
    ∃ g, exec (.mxMap m) s = .next ({ s with grid := g, result := Word.ofNat loop.2 }).normalEnd ∧ g = loop.1 ∧
      (∀ r c, r < n → c < n → c ≠ 6 → g.get r c ≠ .unassigned) ∧
      (∀ r c, s.grid.get r c ≠ .unassigned → g.get r c = s.grid.get r c)

/-- R202, R203 (a): MX.BUILD completes for a legal version and table, and after it no cell of the symbol is unassigned and
no cell outside it is assigned. -/
def Obligations.MxBuildAssignsEveryModule : Prop :=
  ∀ (s : State) (m : MaskId) (trial : Bool),
    let n := 4 * s.version.toNat + 17
    versionOk s → centresOk s n →
    ∃ g k, exec (.mxBuild m trial) s = .next ({ s with
        modcnt := Word.ofNat n, grid := g, result := Word.ofNat k }).normalEnd ∧
      (∀ r c, r < n → c < n → g.get r c ≠ .unassigned) ∧ (∀ r c, n ≤ r ∨ n ≤ c → g.get r c = .unassigned)

/-- R202: MX.BUILD does what its seven steps do one after another, but for the count of commands; a bad VERSION, or else
the lowest bad alignment entry, stops the build with that step's error. -/
def Obligations.MxBuildIsItsSteps : Prop :=
  ∀ (s : State) (m : MaskId) (trial : Bool),
    (versionOk s → centresOk s (newDim s) →
      ∃ t, exec (.mxBuild m trial) s = .next t ∧
        runAll [.mxClr, .mxFnd, .mxAln, .mxTim, .mxFmt m trial, .mxVer trial, .mxMap m] s
          = some { t with cmdcnt := s.cmdcnt + 7#32 }) ∧
    buildErrors (.mxBuild m trial) s

/-! ## Penalty, selection, whole build -/

/-- R214: MX.PEN completes on a grid with every cell assigned, with the parts, their total and the dark count; otherwise
it reports the first unassigned cell in row-major order. -/
def Obligations.MxPenScoresACompleteGrid : Prop :=
  ∀ s : State, hasGrid s →
    let n := dim s
    ((∀ r < n, ∀ c < n, s.grid.get r c ≠ .unassigned) →
      exec .mxPen s = .next ({ s with
        penA := Word.ofNat (ruleA s.grid n), penB := Word.ofNat (ruleB s.grid n),
        penC := Word.ofNat (ruleC s.grid n), penD := Word.ofNat (ruleD s.grid n),
        penalty := Word.ofNat (ruleTotal s.grid n),
        darkcnt := Word.ofNat (darkCells s.grid n) }).normalEnd) ∧
    (∀ r < n, ∀ c < n, s.grid.get r c = .unassigned →
      (∀ r' < n, ∀ c' < n, r' < r ∨ (r' = r ∧ c' < c) → s.grid.get r' c' ≠ .unassigned) →
      exec .mxPen s = .next (s.errorEnd (.incompleteGrid (Word.ofNat r) (Word.ofNat c))))

/-- R210-R213, R216 (d): the model's line-by-line scores are the four rules as sums over places, for every grid; rule D is
a multiple of 10 and at most 100. -/
def Obligations.PenaltyRules : Prop :=
  ∀ (g : Grid) (n : Nat),
    (g.score n).a = ruleA g n ∧ (g.score n).b = ruleB g n ∧ (g.score n).c = ruleC g n ∧ (g.score n).d = ruleD g n ∧
    (g.score n).dark = darkCells g n ∧ (g.score n).total = ruleTotal g n ∧
    (g.score n).d % 10 = 0 ∧ (g.score n).d ≤ 100

/-- R215, R216 (b), (c): MX.SEL completes for a legal version and table: PENTAB holds the eight trial totals, MASKSEL is
the least mask of least total, the penalty registers hold that trial's parts, total and dark count, and the grid, MODCNT
and RESULT are those of the non-trial build with that mask. A bad VERSION or alignment entry is reported. -/
def Obligations.MxSelChoosesTheLeastPenalty : Prop :=
  ∀ s : State,
    (versionOk s → centresOk s (newDim s) →
      ∃ (best : MaskId) (built : State) (pentab : Vector Word 8), exec (.mxBuild best false) s = .next built ∧
        (∀ m : MaskId, pentab[m.val] = Word.ofNat (trialTotal s m) ∧ trialTotal s best ≤ trialTotal s m ∧
          (m < best → trialTotal s best < trialTotal s m)) ∧
        exec .mxSel s = .next { built with
          pentab := pentab, masksel := BitVec.ofNat 3 best.val, penalty := Word.ofNat (trialTotal s best),
          penA := Word.ofNat (ruleA (trialGrid s best) (newDim s)),
          penB := Word.ofNat (ruleB (trialGrid s best) (newDim s)),
          penC := Word.ofNat (ruleC (trialGrid s best) (newDim s)),
          penD := Word.ofNat (ruleD (trialGrid s best) (newDim s)),
          darkcnt := Word.ofNat (darkCells (trialGrid s best) (newDim s)) }) ∧
    buildErrors .mxSel s

/-- R227: Q.BUILD completes when the table, the capacity, the version and the centres pass, and does what BW.FIN, RS.ALL,
CW.ILV and MX.SEL do one after another, but for the count of commands. With a good table, too many bits are reported
before a bad VERSION, and that before a bad alignment entry. -/
def Obligations.QBuildIsItsSteps : Prop :=
  ∀ s : State, tableOk s →
    let cap := 8 * sumBelow (dc s) s.blkcnt.toNat
    (s.bb.length ≤ cap → versionOk s → centresOk s (newDim s) →
      ∃ t, exec .qBuild s = .next t ∧ t.status.done = true ∧ t.status.err = s.status.err ∧
        runAll [.bwFin, .rsAll, .cwIlv, .mxSel] s = some { t with cmdcnt := s.cmdcnt + 4#32 }) ∧
    (cap < s.bb.length →
      reports .qBuild s (.capacityOverflow (Word.ofNat s.bb.length) (Word.ofNat cap))) ∧
    (s.bb.length ≤ cap → buildErrors .qBuild s)

/-! ## What the port shows -/

/-- R25, R63, R64, R65: the word of every register and window, in every state: an element stands in its low bits, the
other bits are 0. POLY reads 0 past PLEN, BB is the byte view (R36), GRID reads 0 outside N x N and 2 exactly at a dark
cell. (The two ROMs are in ResetValues, STATUS and CTRL in StatusWordAndInterrupt. A GRID word below N that names no cell
of the 177 x 177 GRID is left open: log 20.) -/
def Obligations.WindowsShowTheState : Prop :=
  ∀ s : State,
    (s.view .id = 0x47465045#32 ∧ s.view .cmd = s.cmd ∧ s.view .arg0 = s.arg0 ∧ s.view .arg1 = s.arg1 ∧
      s.view .result = s.result ∧ s.view .cmdcnt = s.cmdcnt ∧ s.view .errinfo0 = s.errinfo0 ∧
      s.view .errinfo1 = s.errinfo1 ∧ s.view .errcmd = s.errcmd) ∧
    ((s.view .version).toNat = s.version.toNat ∧ (s.view .eclevel).toNat = s.eclevel.toNat ∧
      (s.view .blkcnt).toNat = s.blkcnt.toNat ∧ (s.view .alncnt).toNat = s.alncnt.toNat ∧
      s.view .bitlen = s.bitlen ∧ s.view .cwlen = s.cwlen ∧ s.view .modcnt = s.modcnt ∧
      (s.view .masksel).toNat = s.masksel.toNat) ∧
    (s.view .penalty = s.penalty ∧ s.view .penA = s.penA ∧ s.view .penB = s.penB ∧ s.view .penC = s.penC ∧
      s.view .penD = s.penD ∧ s.view .darkcnt = s.darkcnt ∧ ∀ m : Fin 8, s.view (.pentab m.val) = s.pentab[m.val]) ∧
    (s.view .cap0 = 0x01008028#32 ∧ s.view .cap1 = 0x20001000#32 ∧ s.view .unmapped = 0#32) ∧
    (∀ i : PReg, s.view (.plen i.val) = Word.ofNat (s.poly i).length ∧
      ∀ j, (∀ h : j < (s.poly i).length, (s.view (.poly i.val j)).toNat = (s.poly i)[j].toNat) ∧
        ((s.poly i).length ≤ j → s.view (.poly i.val j) = 0#32)) ∧
    ((∀ w : Fin 7, (s.view (.alntab w.val)).toNat = s.alntab[w.val].toNat) ∧
      ∀ w : Fin 128, s.view (.blktab w.val) = s.blktab[w.val]) ∧
    (∀ w, (s.view (.stage w)).toNat = (s.stage.read w).toNat ∧ (s.view (.ecc w)).toNat = (s.ecc.read w).toNat ∧
      (s.view (.cw w)).toNat = (s.cw.read w).toNat) ∧
    (∀ w, (s.view (.bb w)).toNat < 256 ∧
      ∀ j < 8, (s.view (.bb w)).getLsbD (7 - j) = s.bb.getD (8 * w + j) false) ∧
    (∀ r c, (r < dim s ∧ c < dim s → r < 177 → c < 177 →
        s.view (.grid r c) = (match s.grid.get r c with | .unassigned => 0#32 | .light => 1#32 | .dark => 2#32)) ∧
      (¬ (r < dim s ∧ c < dim s) → s.view (.grid r c) = 0#32))

end
end

