-- ==== Sys2Proof/Laws/Field.lean ====
section
/-!
SUPPORT. The tables are those of R122's recurrence, and the lengths and leading coefficients of the polynomial functions.
-/

namespace Sys2Proof.Machine

/-! ## Tables (R122) -/

/-- "EXP[0] <- 0x01". -/
theorem expTable_zero : expTable 0 = 0x01#8 := by decide

/-- "for i in 0..254: EXP[i+1] <- xtime(EXP[i])". -/
theorem expTable_succ : ∀ i < 255, expTable (i + 1) = xtime (expTable i) := by decide +kernel

/-- "for i in 0..254: LOG[EXP[i]] <- i". -/
theorem logTable_expTable : ∀ i < 255, logTable (expTable i).toNat = i := by decide +kernel

/-- Every nonzero element is the power its log names. -/
theorem expTable_logTable : ∀ x < 256, x ≠ 0 → expTable (logTable x) = BitVec.ofNat 8 x ∧ logTable x < 255 := by
  decide +kernel

/-- gexp of an exponent in range is a table entry. -/
theorem gexp_ofNat (i : Nat) (h : i < 255) : gexp (i : Int) = expTable i := by
  unfold gexp
  congr
  omega

/-- "`gexp(x + 255) = gexp(x)` for every integer x" (R129 (c)). -/
theorem gexp_period (x : Int) : gexp (x + 255) = gexp x := by
  unfold gexp
  rw [Int.add_emod_right]

/-- A product with a zero factor is zero (R125). -/
@[simp] theorem gmul_zero_left (b : Byte) : gmul 0#8 b = 0#8 := by simp [gmul]
@[simp] theorem gmul_zero_right (a : Byte) : gmul a 0#8 = 0#8 := by simp [gmul]

/-! ## norm (R137) -/

theorem norm_ne_nil (c : List Byte) : norm c ≠ [] := by
  fun_induction norm c <;> simp_all

theorem norm_length_le (c : List Byte) (h : c ≠ []) : (norm c).length ≤ c.length := by
  fun_induction norm c with
  | case1 => exact absurd rfl h
  | case2 => simp
  | case3 _ _ ih =>
    have := ih (by simp)
    simp only [List.length_cons] at this ⊢
    omega
  | case4 => simp

/-- norm leaves a list whose first coefficient is nonzero untouched. -/
theorem norm_of_head (c : Byte) (rest : List Byte) (h : c ≠ 0#8) : norm (c :: rest) = c :: rest := by
  cases rest <;> simp [norm, h]

/-- The result of norm is [0] or begins with a nonzero coefficient (R136). -/
theorem norm_head (c : List Byte) : norm c = [0#8] ∨ ∃ x rest, norm c = x :: rest ∧ x ≠ 0#8 := by
  fun_induction norm c with
  | case1 => exact .inl rfl
  | case2 c =>
    by_cases h : c = 0#8
    · exact .inl (by simp [h])
    · exact .inr ⟨c, [], rfl, h⟩
  | case3 _ _ ih => exact ih
  | case4 c d rest h => exact .inr ⟨c, d :: rest, rfl, h⟩

/-! ## Lengths -/

theorem convolve_length (a b : List Byte) (hb : b ≠ []) : (convolve a b).length = a.length + b.length - 1 := by
  induction a with
  | nil =>
    simp [convolve]
  | cons x a ih =>
    have : 0 < b.length := List.length_pos_of_ne_nil hb
    simp only [convolve, xorCoeffs, List.length_zipWith, List.length_append, List.length_map, List.length_replicate,
      List.length_cons, ih]
    omega

theorem pmodPass_length_le (r b : Poly) (h : r ≠ []) (hb : b.length ≤ r.length) :
    (pmodPass r b).length ≤ r.length := by
  unfold pmodPass
  refine le_trans (norm_length_le _ ?_) ?_
  · intro e
    have := congrArg List.length e
    have hr := List.length_pos_of_ne_nil h
    simp only [xorCoeffs, List.length_append, List.length_zipWith, List.length_map, List.length_drop,
      List.length_nil] at this
    omega
  · simp [xorCoeffs]
    omega

end Sys2Proof.Machine
end

