-- ==== Sys2Proof/Laws/Memory.lean ====
section
/-!
SUPPORT. The laws of the sparse stores: what a read sees after a write, and that every operation keeps the canonical form.
The read laws hold of every list, canonical or not.
-/

namespace Sys2Proof.Machine

variable {α : Type}

/-! ## Reading after a write -/

@[simp] theorem Store.read_nil (d : α) (a : Nat) : Store.read d [] a = d := rfl

theorem Store.read_insert (d : α) (m : Store α) (a b : Nat) (v : α) :
    Store.read d (Store.insert m a v) b = if a = b then v else Store.read d m b := by
  induction m with
  | nil => simp [Store.insert, Store.read]
  | cons e rest ih =>
    obtain ⟨k, x⟩ := e
    simp only [Store.insert]
    split
    · rename_i h
      simp only [Store.read, ih]
      by_cases hab : a = b
      · have : k ≠ b := by omega
        simp [hab, this]
      · simp [hab]
    · split
      · rename_i h h'
        subst h'
        simp only [Store.read]
        split <;> rfl
      · simp only [Store.read]

theorem Store.read_filter_ne (d : α) (m : Store α) (a b : Nat) :
    Store.read d (m.filter (fun e => e.1 ≠ a)) b = if a = b then d else Store.read d m b := by
  induction m with
  | nil => simp [Store.read]
  | cons e rest ih =>
    obtain ⟨k, x⟩ := e
    by_cases hk : k = a
    · subst hk
      simp only [ne_eq, decide_not, decide_true, Bool.not_true, Bool.false_eq_true, not_false_eq_true,
        List.filter_cons_of_neg, Store.read]
      have := ih
      simp only [ne_eq, decide_not] at this
      rw [this]
      split <;> simp_all
    · have hf : List.filter (fun e : Nat × α => decide (e.1 ≠ a)) ((k, x) :: rest)
          = (k, x) :: rest.filter (fun e => decide (e.1 ≠ a)) := by simp [hk]
      rw [hf]
      simp only [Store.read]
      rw [ih]
      split
      · split
        · omega
        · rfl
      · rfl

/-- What a read sees after a write: the value at the key written, the old value elsewhere. -/
theorem Store.read_write [DecidableEq α] (d : α) (m : Store α) (a b : Nat) (v : α) :
    Store.read d (Store.write d m a v) b = if a = b then v else Store.read d m b := by
  unfold Store.write
  split
  · rename_i h
    rw [Store.read_filter_ne]
    simp [h]
  · exact Store.read_insert d m a b v

/-! ## The canonical form -/

theorem Store.wf_iff [DecidableEq α] (d : α) (m : Store α) :
    Store.wf d m = true ↔ m.Pairwise (fun x y => x.1 < y.1) ∧ ∀ e ∈ m, e.2 ≠ d := by
  simp [Store.wf]

theorem Store.mem_insert (m : Store α) (a : Nat) (v : α) (e : Nat × α) (h : e ∈ Store.insert m a v) :
    e = (a, v) ∨ e ∈ m := by
  induction m with
  | nil => simpa [Store.insert] using h
  | cons f rest ih =>
    obtain ⟨k, x⟩ := f
    simp only [Store.insert] at h
    split at h
    · rcases List.mem_cons.mp h with h | h
      · exact .inr (by simp [h])
      · rcases ih h with h | h
        · exact .inl h
        · exact .inr (List.mem_cons_of_mem _ h)
    · split at h
      · rcases List.mem_cons.mp h with h | h
        · exact .inl h
        · exact .inr (List.mem_cons_of_mem _ h)
      · rcases List.mem_cons.mp h with h | h
        · exact .inl h
        · exact .inr h

theorem Store.pairwise_insert (m : Store α) (a : Nat) (v : α) (h : m.Pairwise (fun x y => x.1 < y.1)) :
    (Store.insert m a v).Pairwise (fun x y => x.1 < y.1) := by
  induction m with
  | nil => simp [Store.insert]
  | cons f rest ih =>
    obtain ⟨k, x⟩ := f
    obtain ⟨h1, h2⟩ := List.pairwise_cons.mp h
    simp only [Store.insert]
    split
    · rename_i hk
      refine List.pairwise_cons.mpr ⟨fun e he => ?_, ih h2⟩
      rcases Store.mem_insert rest a v e he with he | he
      · simpa [he] using hk
      · exact h1 e he
    · split
      · rename_i hk
        subst hk
        exact List.pairwise_cons.mpr ⟨h1, h2⟩
      · refine List.pairwise_cons.mpr ⟨fun e he => ?_, h⟩
        rcases List.mem_cons.mp he with he | he
        · subst he
          show a < k
          omega
        · have := h1 e he
          simp only at this
          show a < e.1
          omega

/-- A write keeps the canonical form. -/
theorem Store.wf_write [DecidableEq α] (d : α) (m : Store α) (a : Nat) (v : α) (h : Store.wf d m = true) :
    Store.wf d (Store.write d m a v) = true := by
  rw [Store.wf_iff] at h ⊢
  unfold Store.write
  split
  · exact ⟨h.1.filter _, fun e he => h.2 e (List.mem_filter.mp he).1⟩
  · rename_i hv
    refine ⟨Store.pairwise_insert m a v h.1, fun e he => ?_⟩
    rcases Store.mem_insert m a v e he with he | he
    · simpa [he] using hv
    · exact h.2 e he

/-- A store given by a function is canonical. -/
theorem Store.wf_ofFn [DecidableEq α] (d : α) (n : Nat) (f : Nat → α) : Store.wf d (Store.ofFn d n f) = true := by
  rw [Store.wf_iff]
  refine ⟨List.Pairwise.filter _ (List.pairwise_map.mpr ?_), fun e he => ?_⟩
  · exact List.pairwise_lt_range
  · simpa using (List.mem_filter.mp he).2

theorem Store.read_filter_default [DecidableEq α] (d : α) (m : Store α) (a : Nat)
    (h : m.Pairwise (fun x y => x.1 < y.1)) :
    Store.read d (m.filter (fun e => e.2 ≠ d)) a = Store.read d m a := by
  induction m with
  | nil => rfl
  | cons f rest ih =>
    obtain ⟨k, x⟩ := f
    obtain ⟨h1, h2⟩ := List.pairwise_cons.mp h
    by_cases hx : x = d
    · have hf : List.filter (fun e : Nat × α => decide (e.2 ≠ d)) ((k, x) :: rest)
          = rest.filter (fun e => decide (e.2 ≠ d)) := by simp [hx]
      rw [hf, ih h2]
      simp only [Store.read]
      split
      · rename_i hk
        subst hk
        rw [hx]
        clear ih h h2 hf
        induction rest with
        | nil => rfl
        | cons g rest ih2 =>
          obtain ⟨k2, x2⟩ := g
          have : k < k2 := h1 (k2, x2) (by simp)
          simp only [Store.read]
          split
          · omega
          · exact ih2 (fun e he => h1 e (List.mem_cons_of_mem _ he))
      · rfl
    · have hf : List.filter (fun e : Nat × α => decide (e.2 ≠ d)) ((k, x) :: rest)
          = (k, x) :: rest.filter (fun e => decide (e.2 ≠ d)) := by simp [hx]
      rw [hf]
      simp only [Store.read]
      rw [ih h2]

/-- A store given by a function reads that function below its size, and the default elsewhere. -/
theorem Store.read_ofFn [DecidableEq α] (d : α) (n : Nat) (f : Nat → α) (a : Nat) :
    Store.read d (Store.ofFn d n f) a = if a < n then f a else d := by
  have hp : ((List.range n).map (fun k => (k, f k))).Pairwise (fun x y => x.1 < y.1) :=
    List.pairwise_map.mpr List.pairwise_lt_range
  rw [Store.ofFn, Store.read_filter_default d _ a hp]
  clear hp
  have key : ∀ l : List Nat, Store.read d (l.map (fun k => (k, f k))) a = if a ∈ l then f a else d := by
    intro l
    induction l with
    | nil => simp
    | cons k rest ih =>
      simp only [List.map_cons, Store.read, ih, List.mem_cons]
      by_cases h : k = a
      · simp [h]
      · have : ¬ a = k := fun e => h e.symm
        simp [h, this]
  rw [key]
  simp

/-! ## Byte memories -/

/-- A byte after a store of one byte. -/
theorem Memory.read_write (m : Memory) (a b : Nat) (v : Byte) :
    (m.write a v).read b = if a = b then v else m.read b := Store.read_write 0#8 m a b v

@[simp] theorem Memory.read_write_same (m : Memory) (a : Nat) (v : Byte) : (m.write a v).read a = v := by
  simp [Memory.read_write]

theorem Memory.read_write_other (m : Memory) (a b : Nat) (v : Byte) (h : a ≠ b) : (m.write a v).read b = m.read b := by
  simp [Memory.read_write, h]

/-- A store of one byte keeps the canonical form. -/
theorem Memory.wf_write (m : Memory) (a : Nat) (v : Byte) (h : m.wf = true) : (m.write a v).wf = true :=
  Store.wf_write 0#8 m a v h

/-- A byte after a store of several bytes: the byte stored there, or the old one. -/
theorem Memory.read_writeBytes (m : Memory) (off : Nat) (bytes : List Byte) (b : Nat) :
    (m.writeBytes off bytes).read b
      = if off ≤ b ∧ b < off + bytes.length then bytes.getD (b - off) 0#8 else m.read b := by
  induction bytes generalizing m off with
  | nil =>
    have : ¬ (off ≤ b ∧ b < off + ([] : List Byte).length) := by simp
    rw [if_neg this]
    rfl
  | cons x rest ih =>
    rw [Memory.writeBytes, ih, Memory.read_write]
    simp only [List.length_cons]
    by_cases h1 : off = b
    · subst h1
      simp
    · by_cases h2 : off ≤ b
      · obtain ⟨k, rfl⟩ : ∃ k, b = off + 1 + k := ⟨b - off - 1, by omega⟩
        have e1 : off + 1 + k - (off + 1) = k := by omega
        have e2 : off + 1 + k - off = k + 1 := by omega
        rw [e1, e2]
        by_cases h3 : k < rest.length
        · rw [if_pos (by omega), if_pos (by omega)]
          simp
        · rw [if_neg (by omega), if_neg h1, if_neg (by omega)]
      · rw [if_neg (by omega), if_neg h1, if_neg (by omega)]

/-- A store of several bytes keeps the canonical form. -/
theorem Memory.wf_writeBytes (m : Memory) (off : Nat) (bytes : List Byte) (h : m.wf = true) :
    (m.writeBytes off bytes).wf = true := by
  induction bytes generalizing m off with
  | nil => exact h
  | cons x rest ih => exact ih _ _ (Memory.wf_write m off x h)

/-- A memory given by its first bytes. -/
theorem Memory.read_ofBytes (bytes : List Byte) (b : Nat) : (Memory.ofBytes bytes).read b = bytes.getD b 0#8 := by
  unfold Memory.ofBytes Memory.read
  rw [Store.read_ofFn]
  split
  · rfl
  · rename_i h
    simp [List.getD, List.getElem?_eq_none (by omega : bytes.length ≤ b)]

theorem Memory.wf_ofBytes (bytes : List Byte) : (Memory.ofBytes bytes).wf = true := Store.wf_ofFn 0#8 _ _

theorem Memory.wf_ofFn (n : Nat) (f : Nat → Byte) : Memory.wf (Store.ofFn 0#8 n f) = true := Store.wf_ofFn 0#8 n f

@[simp] theorem Memory.length_readBytes (m : Memory) (off n : Nat) : (m.readBytes off n).length = n := by
  simp [Memory.readBytes]

/-! ## The grid -/

/-- A cell after a cell is set. -/
theorem Grid.get_set (g : Grid) (r c r' c' : Nat) (x : Module) :
    (g.set r c x).get r' c' = if r = r' ∧ c = c' then x else g.get r' c' := by
  unfold Grid.get Grid.set
  rw [Store.read_write]
  by_cases hr : r = r'
  · subst hr
    rw [if_pos rfl, Store.read_write]
    by_cases hc : c = c' <;> simp [hc]
  · simp [hr]

/-- A cell after a cell is painted (R185). -/
theorem Grid.get_paint (g : Grid) (r c r' c' : Nat) (dark : Bool) :
    (g.paint r c dark).get r' c' = if r = r' ∧ c = c' then moduleOfDark dark else g.get r' c' :=
  Grid.get_set g r c r' c' _

/-- A cell after a cell is filled (R185). -/
theorem Grid.get_fill (g : Grid) (r c r' c' : Nat) (dark : Bool) :
    (g.fill r c dark).get r' c'
      = if r = r' ∧ c = c' ∧ g.get r c = .unassigned then moduleOfDark dark else g.get r' c' := by
  unfold Grid.fill
  split
  · rename_i h
    rw [Grid.get_paint]
    simp [h]
  · rename_i h
    simp [h]

theorem moduleOfDark_assigned (dark : Bool) : moduleOfDark dark ≠ .unassigned := by cases dark <;> decide

theorem Store.mem_write [DecidableEq α] (d : α) (m : Store α) (a : Nat) (v : α) (e : Nat × α)
    (h : e ∈ Store.write d m a v) : e = (a, v) ∨ e ∈ m := by
  unfold Store.write at h
  split at h
  · exact .inr (List.mem_filter.mp h).1
  · exact Store.mem_insert m a v e h

theorem Store.wf_read_row (g : Grid) (r : Nat) (h : ∀ e ∈ g, Store.wf .unassigned e.2 = true) :
    Store.wf Module.unassigned (Store.read [] g r) = true := by
  induction g with
  | nil => rfl
  | cons f rest ih =>
    obtain ⟨k, x⟩ := f
    simp only [Store.read]
    split
    · exact h (k, x) (by simp)
    · exact ih (fun e he => h e (List.mem_cons_of_mem _ he))

/-- Setting a cell keeps the canonical form. -/
theorem Grid.wf_set (g : Grid) (r c : Nat) (x : Module) (h : g.wf = true) : (g.set r c x).wf = true := by
  unfold Grid.wf at h ⊢
  rw [Bool.and_eq_true, List.all_eq_true] at h ⊢
  refine ⟨Store.wf_write _ _ _ _ h.1, fun e he => ?_⟩
  rcases Store.mem_write _ _ _ _ e he with he | he
  · rw [he]
    exact Store.wf_write _ _ _ _ (Store.wf_read_row g r h.2)
  · exact h.2 e he

theorem Grid.wf_paint (g : Grid) (r c : Nat) (dark : Bool) (h : g.wf = true) : (g.paint r c dark).wf = true :=
  Grid.wf_set g r c _ h

theorem Grid.wf_fill (g : Grid) (r c : Nat) (dark : Bool) (h : g.wf = true) : (g.fill r c dark).wf = true := by
  unfold Grid.fill
  split
  · exact Grid.wf_paint g r c dark h
  · exact h

theorem Grid.wf_paintAll (g : Grid) (cells : List CellWrite) (h : g.wf = true) : (g.paintAll cells).wf = true := by
  unfold Grid.paintAll
  induction cells generalizing g with
  | nil => exact h
  | cons x rest ih => exact ih _ (Grid.wf_paint g _ _ _ h)

theorem Grid.wf_fillAll (g : Grid) (cells : List CellWrite) (h : g.wf = true) : (g.fillAll cells).wf = true := by
  unfold Grid.fillAll
  induction cells generalizing g with
  | nil => exact h
  | cons x rest ih => exact ih _ (Grid.wf_fill g _ _ _ h)

theorem Grid.wf_ofFn (n : Nat) (f : Nat → Nat → Module) : (Grid.ofFn n f).wf = true := by
  unfold Grid.wf Grid.ofFn
  rw [Bool.and_eq_true, List.all_eq_true]
  refine ⟨Store.wf_ofFn _ _ _, fun e he => ?_⟩
  obtain ⟨k, -, rfl⟩ := List.mem_map.mp (List.mem_filter.mp he).1
  exact Store.wf_ofFn _ _ _

theorem Grid.get_ofFn (n : Nat) (f : Nat → Nat → Module) (r c : Nat) :
    (Grid.ofFn n f).get r c = if r < n ∧ c < n then f r c else .unassigned := by
  unfold Grid.get Grid.ofFn
  rw [Store.read_ofFn]
  by_cases hr : r < n
  · rw [if_pos hr, Store.read_ofFn]
    simp [hr]
  · simp [hr]

/-- A cell no write of the list names keeps its code. -/
theorem Grid.get_paintAll_other (g : Grid) (cells : List CellWrite) (r c : Nat)
    (h : ∀ x ∈ cells, ¬ (x.1 = r ∧ x.2.1 = c)) : (g.paintAll cells).get r c = g.get r c := by
  unfold Grid.paintAll
  induction cells generalizing g with
  | nil => rfl
  | cons x rest ih =>
    rw [List.foldl_cons, ih _ (fun y hy => h y (List.mem_cons_of_mem _ hy)), Grid.get_paint,
      if_neg (h x (by simp))]

/-- A cell some write of the list names, all of whose writes to it agree, takes that colour. -/
theorem Grid.get_paintAll_same (g : Grid) (cells : List CellWrite) (r c : Nat) (dark : Bool)
    (hin : ∃ x ∈ cells, x.1 = r ∧ x.2.1 = c) (hall : ∀ x ∈ cells, x.1 = r → x.2.1 = c → x.2.2 = dark) :
    (g.paintAll cells).get r c = moduleOfDark dark := by
  unfold Grid.paintAll
  induction cells generalizing g with
  | nil => obtain ⟨x, hx, -⟩ := hin; cases hx
  | cons x rest ih =>
    rw [List.foldl_cons]
    by_cases hrest : ∃ y ∈ rest, y.1 = r ∧ y.2.1 = c
    · exact ih _ hrest (fun y hy => hall y (List.mem_cons_of_mem _ hy))
    · have hother := Grid.get_paintAll_other (g.paint x.1 x.2.1 x.2.2) rest r c
        (fun y hy hyc => hrest ⟨y, hy, hyc⟩)
      unfold Grid.paintAll at hother
      rw [hother, Grid.get_paint]
      obtain ⟨y, hy, hyr, hyc⟩ := hin
      rcases List.mem_cons.mp hy with rfl | hy
      · rw [if_pos ⟨hyr, hyc⟩, hall y (by simp) hyr hyc]
      · exact absurd ⟨y, hy, hyr, hyc⟩ hrest

end Sys2Proof.Machine
end

