-- ==== Sys2Proof/Laws/State.lean ====
section
/-!
SUPPORT. One lemma for each field of the state under each named update: a later proof rewrites with these and unfolds no
record update.
-/

namespace Sys2Proof.Machine

/-! ## STATUS -/

@[simp] theorem Status.normal_busy (st : Status) : (st.normal).busy = false := rfl
@[simp] theorem Status.normal_done (st : Status) : (st.normal).done = true := rfl
@[simp] theorem Status.normal_drop (st : Status) : (st.normal).drop = st.drop := rfl
@[simp] theorem Status.normal_err (st : Status) : (st.normal).err = st.err := rfl

@[simp] theorem Status.failed_busy (st : Status) (e : ErrCode) : (st.failed e).busy = false := rfl
@[simp] theorem Status.failed_done (st : Status) (e : ErrCode) : (st.failed e).done = st.done := rfl
@[simp] theorem Status.failed_drop (st : Status) (e : ErrCode) : (st.failed e).drop = st.drop := rfl
@[simp] theorem Status.failed_err (st : Status) (e : ErrCode) : (st.failed e).err = e := rfl

@[simp] theorem Status.accepted_busy (st : Status) : (st.accepted).busy = true := rfl
@[simp] theorem Status.accepted_done (st : Status) : (st.accepted).done = st.done := rfl
@[simp] theorem Status.accepted_drop (st : Status) : (st.accepted).drop = st.drop := rfl
@[simp] theorem Status.accepted_err (st : Status) : (st.accepted).err = st.err := rfl

@[simp] theorem Status.dropped_busy (st : Status) : (st.dropped).busy = st.busy := rfl
@[simp] theorem Status.dropped_done (st : Status) : (st.dropped).done = st.done := rfl
@[simp] theorem Status.dropped_drop (st : Status) : (st.dropped).drop = true := rfl
@[simp] theorem Status.dropped_err (st : Status) : (st.dropped).err = st.err := rfl

@[simp] theorem Status.cleared_busy (st : Status) (w : Word) : (st.cleared w).busy = st.busy := rfl
@[simp] theorem Status.cleared_done (st : Status) (w : Word) : (st.cleared w).done = (st.done && !w.getLsbD 1) := rfl
@[simp] theorem Status.cleared_drop (st : Status) (w : Word) : (st.cleared w).drop = (st.drop && !w.getLsbD 2) := rfl
@[simp] theorem Status.cleared_err (st : Status) (w : Word) : (st.cleared w).err = st.err := rfl

/-! ## normalEnd -/

section
variable (s : State)

@[simp] theorem State.normalEnd_rstN : (s.normalEnd).rstN = s.rstN := rfl
@[simp] theorem State.normalEnd_inputs : (s.normalEnd).inputs = s.inputs := rfl
@[simp] theorem State.normalEnd_rdata : (s.normalEnd).rdata = s.rdata := rfl
@[simp] theorem State.normalEnd_delay : (s.normalEnd).delay = 0 := rfl
@[simp] theorem State.normalEnd_freeCount : (s.normalEnd).freeCount = s.freeCount := rfl
@[simp] theorem State.normalEnd_ieDone : (s.normalEnd).ieDone = s.ieDone := rfl
@[simp] theorem State.normalEnd_ieErr : (s.normalEnd).ieErr = s.ieErr := rfl
@[simp] theorem State.normalEnd_status : (s.normalEnd).status = s.status.normal := rfl
@[simp] theorem State.normalEnd_cmd : (s.normalEnd).cmd = s.cmd := rfl
@[simp] theorem State.normalEnd_arg0 : (s.normalEnd).arg0 = s.arg0 := rfl
@[simp] theorem State.normalEnd_arg1 : (s.normalEnd).arg1 = s.arg1 := rfl
@[simp] theorem State.normalEnd_result : (s.normalEnd).result = s.result := rfl
@[simp] theorem State.normalEnd_cmdcnt : (s.normalEnd).cmdcnt = s.cmdcnt + 1#32 := rfl
@[simp] theorem State.normalEnd_errinfo0 : (s.normalEnd).errinfo0 = s.errinfo0 := rfl
@[simp] theorem State.normalEnd_errinfo1 : (s.normalEnd).errinfo1 = s.errinfo1 := rfl
@[simp] theorem State.normalEnd_errcmd : (s.normalEnd).errcmd = s.errcmd := rfl
@[simp] theorem State.normalEnd_version : (s.normalEnd).version = s.version := rfl
@[simp] theorem State.normalEnd_eclevel : (s.normalEnd).eclevel = s.eclevel := rfl
@[simp] theorem State.normalEnd_blkcnt : (s.normalEnd).blkcnt = s.blkcnt := rfl
@[simp] theorem State.normalEnd_alncnt : (s.normalEnd).alncnt = s.alncnt := rfl
@[simp] theorem State.normalEnd_bitlen : (s.normalEnd).bitlen = s.bitlen := rfl
@[simp] theorem State.normalEnd_cwlen : (s.normalEnd).cwlen = s.cwlen := rfl
@[simp] theorem State.normalEnd_modcnt : (s.normalEnd).modcnt = s.modcnt := rfl
@[simp] theorem State.normalEnd_masksel : (s.normalEnd).masksel = s.masksel := rfl
@[simp] theorem State.normalEnd_penalty : (s.normalEnd).penalty = s.penalty := rfl
@[simp] theorem State.normalEnd_penA : (s.normalEnd).penA = s.penA := rfl
@[simp] theorem State.normalEnd_penB : (s.normalEnd).penB = s.penB := rfl
@[simp] theorem State.normalEnd_penC : (s.normalEnd).penC = s.penC := rfl
@[simp] theorem State.normalEnd_penD : (s.normalEnd).penD = s.penD := rfl
@[simp] theorem State.normalEnd_darkcnt : (s.normalEnd).darkcnt = s.darkcnt := rfl
@[simp] theorem State.normalEnd_pentab : (s.normalEnd).pentab = s.pentab := rfl
@[simp] theorem State.normalEnd_p : (s.normalEnd).p = s.p := rfl
@[simp] theorem State.normalEnd_blktab : (s.normalEnd).blktab = s.blktab := rfl
@[simp] theorem State.normalEnd_alntab : (s.normalEnd).alntab = s.alntab := rfl
@[simp] theorem State.normalEnd_stage : (s.normalEnd).stage = s.stage := rfl
@[simp] theorem State.normalEnd_bb : (s.normalEnd).bb = s.bb := rfl
@[simp] theorem State.normalEnd_ecc : (s.normalEnd).ecc = s.ecc := rfl
@[simp] theorem State.normalEnd_cw : (s.normalEnd).cw = s.cw := rfl
@[simp] theorem State.normalEnd_grid : (s.normalEnd).grid = s.grid := rfl

end

/-! ## errorEnd -/

section
variable (s : State) (e : EngineError)

@[simp] theorem State.errorEnd_rstN : (s.errorEnd e).rstN = s.rstN := rfl
@[simp] theorem State.errorEnd_inputs : (s.errorEnd e).inputs = s.inputs := rfl
@[simp] theorem State.errorEnd_rdata : (s.errorEnd e).rdata = s.rdata := rfl
@[simp] theorem State.errorEnd_delay : (s.errorEnd e).delay = 0 := rfl
@[simp] theorem State.errorEnd_freeCount : (s.errorEnd e).freeCount = s.freeCount := rfl
@[simp] theorem State.errorEnd_ieDone : (s.errorEnd e).ieDone = s.ieDone := rfl
@[simp] theorem State.errorEnd_ieErr : (s.errorEnd e).ieErr = s.ieErr := rfl
@[simp] theorem State.errorEnd_status : (s.errorEnd e).status = s.status.failed e.code := rfl
@[simp] theorem State.errorEnd_cmd : (s.errorEnd e).cmd = s.cmd := rfl
@[simp] theorem State.errorEnd_arg0 : (s.errorEnd e).arg0 = s.arg0 := rfl
@[simp] theorem State.errorEnd_arg1 : (s.errorEnd e).arg1 = s.arg1 := rfl
@[simp] theorem State.errorEnd_result : (s.errorEnd e).result = s.result := rfl
@[simp] theorem State.errorEnd_cmdcnt : (s.errorEnd e).cmdcnt = s.cmdcnt + 1#32 := rfl
@[simp] theorem State.errorEnd_errinfo0 : (s.errorEnd e).errinfo0 = e.info0 := rfl
@[simp] theorem State.errorEnd_errinfo1 : (s.errorEnd e).errinfo1 = e.info1 := rfl
@[simp] theorem State.errorEnd_errcmd : (s.errorEnd e).errcmd = s.cmd := rfl
@[simp] theorem State.errorEnd_version : (s.errorEnd e).version = s.version := rfl
@[simp] theorem State.errorEnd_eclevel : (s.errorEnd e).eclevel = s.eclevel := rfl
@[simp] theorem State.errorEnd_blkcnt : (s.errorEnd e).blkcnt = s.blkcnt := rfl
@[simp] theorem State.errorEnd_alncnt : (s.errorEnd e).alncnt = s.alncnt := rfl
@[simp] theorem State.errorEnd_bitlen : (s.errorEnd e).bitlen = s.bitlen := rfl
@[simp] theorem State.errorEnd_cwlen : (s.errorEnd e).cwlen = s.cwlen := rfl
@[simp] theorem State.errorEnd_modcnt : (s.errorEnd e).modcnt = s.modcnt := rfl
@[simp] theorem State.errorEnd_masksel : (s.errorEnd e).masksel = s.masksel := rfl
@[simp] theorem State.errorEnd_penalty : (s.errorEnd e).penalty = s.penalty := rfl
@[simp] theorem State.errorEnd_penA : (s.errorEnd e).penA = s.penA := rfl
@[simp] theorem State.errorEnd_penB : (s.errorEnd e).penB = s.penB := rfl
@[simp] theorem State.errorEnd_penC : (s.errorEnd e).penC = s.penC := rfl
@[simp] theorem State.errorEnd_penD : (s.errorEnd e).penD = s.penD := rfl
@[simp] theorem State.errorEnd_darkcnt : (s.errorEnd e).darkcnt = s.darkcnt := rfl
@[simp] theorem State.errorEnd_pentab : (s.errorEnd e).pentab = s.pentab := rfl
@[simp] theorem State.errorEnd_p : (s.errorEnd e).p = s.p := rfl
@[simp] theorem State.errorEnd_blktab : (s.errorEnd e).blktab = s.blktab := rfl
@[simp] theorem State.errorEnd_alntab : (s.errorEnd e).alntab = s.alntab := rfl
@[simp] theorem State.errorEnd_stage : (s.errorEnd e).stage = s.stage := rfl
@[simp] theorem State.errorEnd_bb : (s.errorEnd e).bb = s.bb := rfl
@[simp] theorem State.errorEnd_ecc : (s.errorEnd e).ecc = s.ecc := rfl
@[simp] theorem State.errorEnd_cw : (s.errorEnd e).cw = s.cw := rfl
@[simp] theorem State.errorEnd_grid : (s.errorEnd e).grid = s.grid := rfl

end

/-! ## setResult -/

section
variable (s : State) (n : Nat)

@[simp] theorem State.setResult_rstN : (s.setResult n).rstN = s.rstN := rfl
@[simp] theorem State.setResult_inputs : (s.setResult n).inputs = s.inputs := rfl
@[simp] theorem State.setResult_rdata : (s.setResult n).rdata = s.rdata := rfl
@[simp] theorem State.setResult_delay : (s.setResult n).delay = s.delay := rfl
@[simp] theorem State.setResult_freeCount : (s.setResult n).freeCount = s.freeCount := rfl
@[simp] theorem State.setResult_ieDone : (s.setResult n).ieDone = s.ieDone := rfl
@[simp] theorem State.setResult_ieErr : (s.setResult n).ieErr = s.ieErr := rfl
@[simp] theorem State.setResult_status : (s.setResult n).status = s.status := rfl
@[simp] theorem State.setResult_cmd : (s.setResult n).cmd = s.cmd := rfl
@[simp] theorem State.setResult_arg0 : (s.setResult n).arg0 = s.arg0 := rfl
@[simp] theorem State.setResult_arg1 : (s.setResult n).arg1 = s.arg1 := rfl
@[simp] theorem State.setResult_result : (s.setResult n).result = Word.ofNat n := rfl
@[simp] theorem State.setResult_cmdcnt : (s.setResult n).cmdcnt = s.cmdcnt := rfl
@[simp] theorem State.setResult_errinfo0 : (s.setResult n).errinfo0 = s.errinfo0 := rfl
@[simp] theorem State.setResult_errinfo1 : (s.setResult n).errinfo1 = s.errinfo1 := rfl
@[simp] theorem State.setResult_errcmd : (s.setResult n).errcmd = s.errcmd := rfl
@[simp] theorem State.setResult_version : (s.setResult n).version = s.version := rfl
@[simp] theorem State.setResult_eclevel : (s.setResult n).eclevel = s.eclevel := rfl
@[simp] theorem State.setResult_blkcnt : (s.setResult n).blkcnt = s.blkcnt := rfl
@[simp] theorem State.setResult_alncnt : (s.setResult n).alncnt = s.alncnt := rfl
@[simp] theorem State.setResult_bitlen : (s.setResult n).bitlen = s.bitlen := rfl
@[simp] theorem State.setResult_cwlen : (s.setResult n).cwlen = s.cwlen := rfl
@[simp] theorem State.setResult_modcnt : (s.setResult n).modcnt = s.modcnt := rfl
@[simp] theorem State.setResult_masksel : (s.setResult n).masksel = s.masksel := rfl
@[simp] theorem State.setResult_penalty : (s.setResult n).penalty = s.penalty := rfl
@[simp] theorem State.setResult_penA : (s.setResult n).penA = s.penA := rfl
@[simp] theorem State.setResult_penB : (s.setResult n).penB = s.penB := rfl
@[simp] theorem State.setResult_penC : (s.setResult n).penC = s.penC := rfl
@[simp] theorem State.setResult_penD : (s.setResult n).penD = s.penD := rfl
@[simp] theorem State.setResult_darkcnt : (s.setResult n).darkcnt = s.darkcnt := rfl
@[simp] theorem State.setResult_pentab : (s.setResult n).pentab = s.pentab := rfl
@[simp] theorem State.setResult_p : (s.setResult n).p = s.p := rfl
@[simp] theorem State.setResult_blktab : (s.setResult n).blktab = s.blktab := rfl
@[simp] theorem State.setResult_alntab : (s.setResult n).alntab = s.alntab := rfl
@[simp] theorem State.setResult_stage : (s.setResult n).stage = s.stage := rfl
@[simp] theorem State.setResult_bb : (s.setResult n).bb = s.bb := rfl
@[simp] theorem State.setResult_ecc : (s.setResult n).ecc = s.ecc := rfl
@[simp] theorem State.setResult_cw : (s.setResult n).cw = s.cw := rfl
@[simp] theorem State.setResult_grid : (s.setResult n).grid = s.grid := rfl

end

/-! ## setPoly -/

section
variable (s : State) (i : PReg) (q : Poly)

@[simp] theorem State.setPoly_rstN : (s.setPoly i q).rstN = s.rstN := rfl
@[simp] theorem State.setPoly_inputs : (s.setPoly i q).inputs = s.inputs := rfl
@[simp] theorem State.setPoly_rdata : (s.setPoly i q).rdata = s.rdata := rfl
@[simp] theorem State.setPoly_delay : (s.setPoly i q).delay = s.delay := rfl
@[simp] theorem State.setPoly_freeCount : (s.setPoly i q).freeCount = s.freeCount := rfl
@[simp] theorem State.setPoly_ieDone : (s.setPoly i q).ieDone = s.ieDone := rfl
@[simp] theorem State.setPoly_ieErr : (s.setPoly i q).ieErr = s.ieErr := rfl
@[simp] theorem State.setPoly_status : (s.setPoly i q).status = s.status := rfl
@[simp] theorem State.setPoly_cmd : (s.setPoly i q).cmd = s.cmd := rfl
@[simp] theorem State.setPoly_arg0 : (s.setPoly i q).arg0 = s.arg0 := rfl
@[simp] theorem State.setPoly_arg1 : (s.setPoly i q).arg1 = s.arg1 := rfl
@[simp] theorem State.setPoly_result : (s.setPoly i q).result = s.result := rfl
@[simp] theorem State.setPoly_cmdcnt : (s.setPoly i q).cmdcnt = s.cmdcnt := rfl
@[simp] theorem State.setPoly_errinfo0 : (s.setPoly i q).errinfo0 = s.errinfo0 := rfl
@[simp] theorem State.setPoly_errinfo1 : (s.setPoly i q).errinfo1 = s.errinfo1 := rfl
@[simp] theorem State.setPoly_errcmd : (s.setPoly i q).errcmd = s.errcmd := rfl
@[simp] theorem State.setPoly_version : (s.setPoly i q).version = s.version := rfl
@[simp] theorem State.setPoly_eclevel : (s.setPoly i q).eclevel = s.eclevel := rfl
@[simp] theorem State.setPoly_blkcnt : (s.setPoly i q).blkcnt = s.blkcnt := rfl
@[simp] theorem State.setPoly_alncnt : (s.setPoly i q).alncnt = s.alncnt := rfl
@[simp] theorem State.setPoly_bitlen : (s.setPoly i q).bitlen = s.bitlen := rfl
@[simp] theorem State.setPoly_cwlen : (s.setPoly i q).cwlen = s.cwlen := rfl
@[simp] theorem State.setPoly_modcnt : (s.setPoly i q).modcnt = s.modcnt := rfl
@[simp] theorem State.setPoly_masksel : (s.setPoly i q).masksel = s.masksel := rfl
@[simp] theorem State.setPoly_penalty : (s.setPoly i q).penalty = s.penalty := rfl
@[simp] theorem State.setPoly_penA : (s.setPoly i q).penA = s.penA := rfl
@[simp] theorem State.setPoly_penB : (s.setPoly i q).penB = s.penB := rfl
@[simp] theorem State.setPoly_penC : (s.setPoly i q).penC = s.penC := rfl
@[simp] theorem State.setPoly_penD : (s.setPoly i q).penD = s.penD := rfl
@[simp] theorem State.setPoly_darkcnt : (s.setPoly i q).darkcnt = s.darkcnt := rfl
@[simp] theorem State.setPoly_pentab : (s.setPoly i q).pentab = s.pentab := rfl
@[simp] theorem State.setPoly_p : (s.setPoly i q).p = s.p.set i.val q := rfl
@[simp] theorem State.setPoly_blktab : (s.setPoly i q).blktab = s.blktab := rfl
@[simp] theorem State.setPoly_alntab : (s.setPoly i q).alntab = s.alntab := rfl
@[simp] theorem State.setPoly_stage : (s.setPoly i q).stage = s.stage := rfl
@[simp] theorem State.setPoly_bb : (s.setPoly i q).bb = s.bb := rfl
@[simp] theorem State.setPoly_ecc : (s.setPoly i q).ecc = s.ecc := rfl
@[simp] theorem State.setPoly_cw : (s.setPoly i q).cw = s.cw := rfl
@[simp] theorem State.setPoly_grid : (s.setPoly i q).grid = s.grid := rfl

end

/-! ## setScore -/

section
variable (s : State) (x : Score)

@[simp] theorem State.setScore_rstN : (s.setScore x).rstN = s.rstN := rfl
@[simp] theorem State.setScore_inputs : (s.setScore x).inputs = s.inputs := rfl
@[simp] theorem State.setScore_rdata : (s.setScore x).rdata = s.rdata := rfl
@[simp] theorem State.setScore_delay : (s.setScore x).delay = s.delay := rfl
@[simp] theorem State.setScore_freeCount : (s.setScore x).freeCount = s.freeCount := rfl
@[simp] theorem State.setScore_ieDone : (s.setScore x).ieDone = s.ieDone := rfl
@[simp] theorem State.setScore_ieErr : (s.setScore x).ieErr = s.ieErr := rfl
@[simp] theorem State.setScore_status : (s.setScore x).status = s.status := rfl
@[simp] theorem State.setScore_cmd : (s.setScore x).cmd = s.cmd := rfl
@[simp] theorem State.setScore_arg0 : (s.setScore x).arg0 = s.arg0 := rfl
@[simp] theorem State.setScore_arg1 : (s.setScore x).arg1 = s.arg1 := rfl
@[simp] theorem State.setScore_result : (s.setScore x).result = s.result := rfl
@[simp] theorem State.setScore_cmdcnt : (s.setScore x).cmdcnt = s.cmdcnt := rfl
@[simp] theorem State.setScore_errinfo0 : (s.setScore x).errinfo0 = s.errinfo0 := rfl
@[simp] theorem State.setScore_errinfo1 : (s.setScore x).errinfo1 = s.errinfo1 := rfl
@[simp] theorem State.setScore_errcmd : (s.setScore x).errcmd = s.errcmd := rfl
@[simp] theorem State.setScore_version : (s.setScore x).version = s.version := rfl
@[simp] theorem State.setScore_eclevel : (s.setScore x).eclevel = s.eclevel := rfl
@[simp] theorem State.setScore_blkcnt : (s.setScore x).blkcnt = s.blkcnt := rfl
@[simp] theorem State.setScore_alncnt : (s.setScore x).alncnt = s.alncnt := rfl
@[simp] theorem State.setScore_bitlen : (s.setScore x).bitlen = s.bitlen := rfl
@[simp] theorem State.setScore_cwlen : (s.setScore x).cwlen = s.cwlen := rfl
@[simp] theorem State.setScore_modcnt : (s.setScore x).modcnt = s.modcnt := rfl
@[simp] theorem State.setScore_masksel : (s.setScore x).masksel = s.masksel := rfl
@[simp] theorem State.setScore_penalty : (s.setScore x).penalty = Word.ofNat x.total := rfl
@[simp] theorem State.setScore_penA : (s.setScore x).penA = Word.ofNat x.a := rfl
@[simp] theorem State.setScore_penB : (s.setScore x).penB = Word.ofNat x.b := rfl
@[simp] theorem State.setScore_penC : (s.setScore x).penC = Word.ofNat x.c := rfl
@[simp] theorem State.setScore_penD : (s.setScore x).penD = Word.ofNat x.d := rfl
@[simp] theorem State.setScore_darkcnt : (s.setScore x).darkcnt = Word.ofNat x.dark := rfl
@[simp] theorem State.setScore_pentab : (s.setScore x).pentab = s.pentab := rfl
@[simp] theorem State.setScore_p : (s.setScore x).p = s.p := rfl
@[simp] theorem State.setScore_blktab : (s.setScore x).blktab = s.blktab := rfl
@[simp] theorem State.setScore_alntab : (s.setScore x).alntab = s.alntab := rfl
@[simp] theorem State.setScore_stage : (s.setScore x).stage = s.stage := rfl
@[simp] theorem State.setScore_bb : (s.setScore x).bb = s.bb := rfl
@[simp] theorem State.setScore_ecc : (s.setScore x).ecc = s.ecc := rfl
@[simp] theorem State.setScore_cw : (s.setScore x).cw = s.cw := rfl
@[simp] theorem State.setScore_grid : (s.setScore x).grid = s.grid := rfl

end

/-! ## readFree -/

section
variable (s : State)

@[simp] theorem State.readFree_rstN : (s.readFree).rstN = s.rstN := rfl
@[simp] theorem State.readFree_inputs : (s.readFree).inputs = s.inputs := rfl
@[simp] theorem State.readFree_rdata : (s.readFree).rdata = Config.freeWord s.freeCount := rfl
@[simp] theorem State.readFree_delay : (s.readFree).delay = s.delay := rfl
@[simp] theorem State.readFree_freeCount : (s.readFree).freeCount = s.freeCount + 1 := rfl
@[simp] theorem State.readFree_ieDone : (s.readFree).ieDone = s.ieDone := rfl
@[simp] theorem State.readFree_ieErr : (s.readFree).ieErr = s.ieErr := rfl
@[simp] theorem State.readFree_status : (s.readFree).status = s.status := rfl
@[simp] theorem State.readFree_cmd : (s.readFree).cmd = s.cmd := rfl
@[simp] theorem State.readFree_arg0 : (s.readFree).arg0 = s.arg0 := rfl
@[simp] theorem State.readFree_arg1 : (s.readFree).arg1 = s.arg1 := rfl
@[simp] theorem State.readFree_result : (s.readFree).result = s.result := rfl
@[simp] theorem State.readFree_cmdcnt : (s.readFree).cmdcnt = s.cmdcnt := rfl
@[simp] theorem State.readFree_errinfo0 : (s.readFree).errinfo0 = s.errinfo0 := rfl
@[simp] theorem State.readFree_errinfo1 : (s.readFree).errinfo1 = s.errinfo1 := rfl
@[simp] theorem State.readFree_errcmd : (s.readFree).errcmd = s.errcmd := rfl
@[simp] theorem State.readFree_version : (s.readFree).version = s.version := rfl
@[simp] theorem State.readFree_eclevel : (s.readFree).eclevel = s.eclevel := rfl
@[simp] theorem State.readFree_blkcnt : (s.readFree).blkcnt = s.blkcnt := rfl
@[simp] theorem State.readFree_alncnt : (s.readFree).alncnt = s.alncnt := rfl
@[simp] theorem State.readFree_bitlen : (s.readFree).bitlen = s.bitlen := rfl
@[simp] theorem State.readFree_cwlen : (s.readFree).cwlen = s.cwlen := rfl
@[simp] theorem State.readFree_modcnt : (s.readFree).modcnt = s.modcnt := rfl
@[simp] theorem State.readFree_masksel : (s.readFree).masksel = s.masksel := rfl
@[simp] theorem State.readFree_penalty : (s.readFree).penalty = s.penalty := rfl
@[simp] theorem State.readFree_penA : (s.readFree).penA = s.penA := rfl
@[simp] theorem State.readFree_penB : (s.readFree).penB = s.penB := rfl
@[simp] theorem State.readFree_penC : (s.readFree).penC = s.penC := rfl
@[simp] theorem State.readFree_penD : (s.readFree).penD = s.penD := rfl
@[simp] theorem State.readFree_darkcnt : (s.readFree).darkcnt = s.darkcnt := rfl
@[simp] theorem State.readFree_pentab : (s.readFree).pentab = s.pentab := rfl
@[simp] theorem State.readFree_p : (s.readFree).p = s.p := rfl
@[simp] theorem State.readFree_blktab : (s.readFree).blktab = s.blktab := rfl
@[simp] theorem State.readFree_alntab : (s.readFree).alntab = s.alntab := rfl
@[simp] theorem State.readFree_stage : (s.readFree).stage = s.stage := rfl
@[simp] theorem State.readFree_bb : (s.readFree).bb = s.bb := rfl
@[simp] theorem State.readFree_ecc : (s.readFree).ecc = s.ecc := rfl
@[simp] theorem State.readFree_cw : (s.readFree).cw = s.cw := rfl
@[simp] theorem State.readFree_grid : (s.readFree).grid = s.grid := rfl

end

/-! ## dropWrite -/

section
variable (s : State)

@[simp] theorem State.dropWrite_rstN : (s.dropWrite).rstN = s.rstN := rfl
@[simp] theorem State.dropWrite_inputs : (s.dropWrite).inputs = s.inputs := rfl
@[simp] theorem State.dropWrite_rdata : (s.dropWrite).rdata = s.rdata := rfl
@[simp] theorem State.dropWrite_delay : (s.dropWrite).delay = s.delay := rfl
@[simp] theorem State.dropWrite_freeCount : (s.dropWrite).freeCount = s.freeCount := rfl
@[simp] theorem State.dropWrite_ieDone : (s.dropWrite).ieDone = s.ieDone := rfl
@[simp] theorem State.dropWrite_ieErr : (s.dropWrite).ieErr = s.ieErr := rfl
@[simp] theorem State.dropWrite_status : (s.dropWrite).status = s.status.dropped := rfl
@[simp] theorem State.dropWrite_cmd : (s.dropWrite).cmd = s.cmd := rfl
@[simp] theorem State.dropWrite_arg0 : (s.dropWrite).arg0 = s.arg0 := rfl
@[simp] theorem State.dropWrite_arg1 : (s.dropWrite).arg1 = s.arg1 := rfl
@[simp] theorem State.dropWrite_result : (s.dropWrite).result = s.result := rfl
@[simp] theorem State.dropWrite_cmdcnt : (s.dropWrite).cmdcnt = s.cmdcnt := rfl
@[simp] theorem State.dropWrite_errinfo0 : (s.dropWrite).errinfo0 = s.errinfo0 := rfl
@[simp] theorem State.dropWrite_errinfo1 : (s.dropWrite).errinfo1 = s.errinfo1 := rfl
@[simp] theorem State.dropWrite_errcmd : (s.dropWrite).errcmd = s.errcmd := rfl
@[simp] theorem State.dropWrite_version : (s.dropWrite).version = s.version := rfl
@[simp] theorem State.dropWrite_eclevel : (s.dropWrite).eclevel = s.eclevel := rfl
@[simp] theorem State.dropWrite_blkcnt : (s.dropWrite).blkcnt = s.blkcnt := rfl
@[simp] theorem State.dropWrite_alncnt : (s.dropWrite).alncnt = s.alncnt := rfl
@[simp] theorem State.dropWrite_bitlen : (s.dropWrite).bitlen = s.bitlen := rfl
@[simp] theorem State.dropWrite_cwlen : (s.dropWrite).cwlen = s.cwlen := rfl
@[simp] theorem State.dropWrite_modcnt : (s.dropWrite).modcnt = s.modcnt := rfl
@[simp] theorem State.dropWrite_masksel : (s.dropWrite).masksel = s.masksel := rfl
@[simp] theorem State.dropWrite_penalty : (s.dropWrite).penalty = s.penalty := rfl
@[simp] theorem State.dropWrite_penA : (s.dropWrite).penA = s.penA := rfl
@[simp] theorem State.dropWrite_penB : (s.dropWrite).penB = s.penB := rfl
@[simp] theorem State.dropWrite_penC : (s.dropWrite).penC = s.penC := rfl
@[simp] theorem State.dropWrite_penD : (s.dropWrite).penD = s.penD := rfl
@[simp] theorem State.dropWrite_darkcnt : (s.dropWrite).darkcnt = s.darkcnt := rfl
@[simp] theorem State.dropWrite_pentab : (s.dropWrite).pentab = s.pentab := rfl
@[simp] theorem State.dropWrite_p : (s.dropWrite).p = s.p := rfl
@[simp] theorem State.dropWrite_blktab : (s.dropWrite).blktab = s.blktab := rfl
@[simp] theorem State.dropWrite_alntab : (s.dropWrite).alntab = s.alntab := rfl
@[simp] theorem State.dropWrite_stage : (s.dropWrite).stage = s.stage := rfl
@[simp] theorem State.dropWrite_bb : (s.dropWrite).bb = s.bb := rfl
@[simp] theorem State.dropWrite_ecc : (s.dropWrite).ecc = s.ecc := rfl
@[simp] theorem State.dropWrite_cw : (s.dropWrite).cw = s.cw := rfl
@[simp] theorem State.dropWrite_grid : (s.dropWrite).grid = s.grid := rfl

end

/-! ## acceptCommand -/

section
variable (s : State) (w : Word)

@[simp] theorem State.acceptCommand_rstN : (s.acceptCommand w).rstN = s.rstN := rfl
@[simp] theorem State.acceptCommand_inputs : (s.acceptCommand w).inputs = s.inputs := rfl
@[simp] theorem State.acceptCommand_rdata : (s.acceptCommand w).rdata = s.rdata := rfl
@[simp] theorem State.acceptCommand_delay : (s.acceptCommand w).delay = Config.stepDelay s.freeCount := rfl
@[simp] theorem State.acceptCommand_freeCount : (s.acceptCommand w).freeCount = s.freeCount + 1 := rfl
@[simp] theorem State.acceptCommand_ieDone : (s.acceptCommand w).ieDone = s.ieDone := rfl
@[simp] theorem State.acceptCommand_ieErr : (s.acceptCommand w).ieErr = s.ieErr := rfl
@[simp] theorem State.acceptCommand_status : (s.acceptCommand w).status = s.status.accepted := rfl
@[simp] theorem State.acceptCommand_cmd : (s.acceptCommand w).cmd = w := rfl
@[simp] theorem State.acceptCommand_arg0 : (s.acceptCommand w).arg0 = s.arg0 := rfl
@[simp] theorem State.acceptCommand_arg1 : (s.acceptCommand w).arg1 = s.arg1 := rfl
@[simp] theorem State.acceptCommand_result : (s.acceptCommand w).result = s.result := rfl
@[simp] theorem State.acceptCommand_cmdcnt : (s.acceptCommand w).cmdcnt = s.cmdcnt := rfl
@[simp] theorem State.acceptCommand_errinfo0 : (s.acceptCommand w).errinfo0 = s.errinfo0 := rfl
@[simp] theorem State.acceptCommand_errinfo1 : (s.acceptCommand w).errinfo1 = s.errinfo1 := rfl
@[simp] theorem State.acceptCommand_errcmd : (s.acceptCommand w).errcmd = s.errcmd := rfl
@[simp] theorem State.acceptCommand_version : (s.acceptCommand w).version = s.version := rfl
@[simp] theorem State.acceptCommand_eclevel : (s.acceptCommand w).eclevel = s.eclevel := rfl
@[simp] theorem State.acceptCommand_blkcnt : (s.acceptCommand w).blkcnt = s.blkcnt := rfl
@[simp] theorem State.acceptCommand_alncnt : (s.acceptCommand w).alncnt = s.alncnt := rfl
@[simp] theorem State.acceptCommand_bitlen : (s.acceptCommand w).bitlen = s.bitlen := rfl
@[simp] theorem State.acceptCommand_cwlen : (s.acceptCommand w).cwlen = s.cwlen := rfl
@[simp] theorem State.acceptCommand_modcnt : (s.acceptCommand w).modcnt = s.modcnt := rfl
@[simp] theorem State.acceptCommand_masksel : (s.acceptCommand w).masksel = s.masksel := rfl
@[simp] theorem State.acceptCommand_penalty : (s.acceptCommand w).penalty = s.penalty := rfl
@[simp] theorem State.acceptCommand_penA : (s.acceptCommand w).penA = s.penA := rfl
@[simp] theorem State.acceptCommand_penB : (s.acceptCommand w).penB = s.penB := rfl
@[simp] theorem State.acceptCommand_penC : (s.acceptCommand w).penC = s.penC := rfl
@[simp] theorem State.acceptCommand_penD : (s.acceptCommand w).penD = s.penD := rfl
@[simp] theorem State.acceptCommand_darkcnt : (s.acceptCommand w).darkcnt = s.darkcnt := rfl
@[simp] theorem State.acceptCommand_pentab : (s.acceptCommand w).pentab = s.pentab := rfl
@[simp] theorem State.acceptCommand_p : (s.acceptCommand w).p = s.p := rfl
@[simp] theorem State.acceptCommand_blktab : (s.acceptCommand w).blktab = s.blktab := rfl
@[simp] theorem State.acceptCommand_alntab : (s.acceptCommand w).alntab = s.alntab := rfl
@[simp] theorem State.acceptCommand_stage : (s.acceptCommand w).stage = s.stage := rfl
@[simp] theorem State.acceptCommand_bb : (s.acceptCommand w).bb = s.bb := rfl
@[simp] theorem State.acceptCommand_ecc : (s.acceptCommand w).ecc = s.ecc := rfl
@[simp] theorem State.acceptCommand_cw : (s.acceptCommand w).cw = s.cw := rfl
@[simp] theorem State.acceptCommand_grid : (s.acceptCommand w).grid = s.grid := rfl

end

/-! ## withPending -/

section
variable (s : State) (w : Word)

@[simp] theorem State.withPending_rstN : (s.withPending w).rstN = true := rfl
@[simp] theorem State.withPending_inputs : (s.withPending w).inputs = s.inputs := rfl
@[simp] theorem State.withPending_rdata : (s.withPending w).rdata = s.rdata := rfl
@[simp] theorem State.withPending_delay : (s.withPending w).delay = 0 := rfl
@[simp] theorem State.withPending_freeCount : (s.withPending w).freeCount = s.freeCount := rfl
@[simp] theorem State.withPending_ieDone : (s.withPending w).ieDone = s.ieDone := rfl
@[simp] theorem State.withPending_ieErr : (s.withPending w).ieErr = s.ieErr := rfl
@[simp] theorem State.withPending_status : (s.withPending w).status = s.status.accepted := rfl
@[simp] theorem State.withPending_cmd : (s.withPending w).cmd = w := rfl
@[simp] theorem State.withPending_arg0 : (s.withPending w).arg0 = s.arg0 := rfl
@[simp] theorem State.withPending_arg1 : (s.withPending w).arg1 = s.arg1 := rfl
@[simp] theorem State.withPending_result : (s.withPending w).result = s.result := rfl
@[simp] theorem State.withPending_cmdcnt : (s.withPending w).cmdcnt = s.cmdcnt := rfl
@[simp] theorem State.withPending_errinfo0 : (s.withPending w).errinfo0 = s.errinfo0 := rfl
@[simp] theorem State.withPending_errinfo1 : (s.withPending w).errinfo1 = s.errinfo1 := rfl
@[simp] theorem State.withPending_errcmd : (s.withPending w).errcmd = s.errcmd := rfl
@[simp] theorem State.withPending_version : (s.withPending w).version = s.version := rfl
@[simp] theorem State.withPending_eclevel : (s.withPending w).eclevel = s.eclevel := rfl
@[simp] theorem State.withPending_blkcnt : (s.withPending w).blkcnt = s.blkcnt := rfl
@[simp] theorem State.withPending_alncnt : (s.withPending w).alncnt = s.alncnt := rfl
@[simp] theorem State.withPending_bitlen : (s.withPending w).bitlen = s.bitlen := rfl
@[simp] theorem State.withPending_cwlen : (s.withPending w).cwlen = s.cwlen := rfl
@[simp] theorem State.withPending_modcnt : (s.withPending w).modcnt = s.modcnt := rfl
@[simp] theorem State.withPending_masksel : (s.withPending w).masksel = s.masksel := rfl
@[simp] theorem State.withPending_penalty : (s.withPending w).penalty = s.penalty := rfl
@[simp] theorem State.withPending_penA : (s.withPending w).penA = s.penA := rfl
@[simp] theorem State.withPending_penB : (s.withPending w).penB = s.penB := rfl
@[simp] theorem State.withPending_penC : (s.withPending w).penC = s.penC := rfl
@[simp] theorem State.withPending_penD : (s.withPending w).penD = s.penD := rfl
@[simp] theorem State.withPending_darkcnt : (s.withPending w).darkcnt = s.darkcnt := rfl
@[simp] theorem State.withPending_pentab : (s.withPending w).pentab = s.pentab := rfl
@[simp] theorem State.withPending_p : (s.withPending w).p = s.p := rfl
@[simp] theorem State.withPending_blktab : (s.withPending w).blktab = s.blktab := rfl
@[simp] theorem State.withPending_alntab : (s.withPending w).alntab = s.alntab := rfl
@[simp] theorem State.withPending_stage : (s.withPending w).stage = s.stage := rfl
@[simp] theorem State.withPending_bb : (s.withPending w).bb = s.bb := rfl
@[simp] theorem State.withPending_ecc : (s.withPending w).ecc = s.ecc := rfl
@[simp] theorem State.withPending_cw : (s.withPending w).cw = s.cw := rfl
@[simp] theorem State.withPending_grid : (s.withPending w).grid = s.grid := rfl

end

/-! ## engineReset: the engine's state at its reset value (R253) -/

section
variable (s : State)

@[simp] theorem State.engineReset_rstN : s.engineReset.rstN = s.rstN := rfl
@[simp] theorem State.engineReset_inputs : s.engineReset.inputs = s.inputs := rfl
@[simp] theorem State.engineReset_rdata : s.engineReset.rdata = s.rdata := rfl
@[simp] theorem State.engineReset_delay : s.engineReset.delay = State.reset.delay := rfl
@[simp] theorem State.engineReset_freeCount : s.engineReset.freeCount = s.freeCount := rfl
@[simp] theorem State.engineReset_ieDone : s.engineReset.ieDone = State.reset.ieDone := rfl
@[simp] theorem State.engineReset_ieErr : s.engineReset.ieErr = State.reset.ieErr := rfl
@[simp] theorem State.engineReset_status : s.engineReset.status = State.reset.status := rfl
@[simp] theorem State.engineReset_cmd : s.engineReset.cmd = State.reset.cmd := rfl
@[simp] theorem State.engineReset_arg0 : s.engineReset.arg0 = State.reset.arg0 := rfl
@[simp] theorem State.engineReset_arg1 : s.engineReset.arg1 = State.reset.arg1 := rfl
@[simp] theorem State.engineReset_result : s.engineReset.result = State.reset.result := rfl
@[simp] theorem State.engineReset_cmdcnt : s.engineReset.cmdcnt = State.reset.cmdcnt := rfl
@[simp] theorem State.engineReset_errinfo0 : s.engineReset.errinfo0 = State.reset.errinfo0 := rfl
@[simp] theorem State.engineReset_errinfo1 : s.engineReset.errinfo1 = State.reset.errinfo1 := rfl
@[simp] theorem State.engineReset_errcmd : s.engineReset.errcmd = State.reset.errcmd := rfl
@[simp] theorem State.engineReset_version : s.engineReset.version = State.reset.version := rfl
@[simp] theorem State.engineReset_eclevel : s.engineReset.eclevel = State.reset.eclevel := rfl
@[simp] theorem State.engineReset_blkcnt : s.engineReset.blkcnt = State.reset.blkcnt := rfl
@[simp] theorem State.engineReset_alncnt : s.engineReset.alncnt = State.reset.alncnt := rfl
@[simp] theorem State.engineReset_bitlen : s.engineReset.bitlen = State.reset.bitlen := rfl
@[simp] theorem State.engineReset_cwlen : s.engineReset.cwlen = State.reset.cwlen := rfl
@[simp] theorem State.engineReset_modcnt : s.engineReset.modcnt = State.reset.modcnt := rfl
@[simp] theorem State.engineReset_masksel : s.engineReset.masksel = State.reset.masksel := rfl
@[simp] theorem State.engineReset_penalty : s.engineReset.penalty = State.reset.penalty := rfl
@[simp] theorem State.engineReset_penA : s.engineReset.penA = State.reset.penA := rfl
@[simp] theorem State.engineReset_penB : s.engineReset.penB = State.reset.penB := rfl
@[simp] theorem State.engineReset_penC : s.engineReset.penC = State.reset.penC := rfl
@[simp] theorem State.engineReset_penD : s.engineReset.penD = State.reset.penD := rfl
@[simp] theorem State.engineReset_darkcnt : s.engineReset.darkcnt = State.reset.darkcnt := rfl
@[simp] theorem State.engineReset_pentab : s.engineReset.pentab = State.reset.pentab := rfl
@[simp] theorem State.engineReset_p : s.engineReset.p = State.reset.p := rfl
@[simp] theorem State.engineReset_blktab : s.engineReset.blktab = State.reset.blktab := rfl
@[simp] theorem State.engineReset_alntab : s.engineReset.alntab = State.reset.alntab := rfl
@[simp] theorem State.engineReset_stage : s.engineReset.stage = State.reset.stage := rfl
@[simp] theorem State.engineReset_bb : s.engineReset.bb = State.reset.bb := rfl
@[simp] theorem State.engineReset_ecc : s.engineReset.ecc = State.reset.ecc := rfl
@[simp] theorem State.engineReset_cw : s.engineReset.cw = State.reset.cw := rfl
@[simp] theorem State.engineReset_grid : s.engineReset.grid = State.reset.grid := rfl

end

end Sys2Proof.Machine
end

