-- ==== Sys2Proof/Laws/Ops.lean ====
section
/-!
SUPPORT. One lemma for each shared operation, saying all it can do: the ends of a command, the checks of the operands, the
append to the bit buffer, the engine's turn.
-/

namespace Sys2Proof.Machine

variable (s : State)

/-! ## The ends of a command -/

@[simp] theorem State.finish_ok (t : State) : s.finish (.ok t) = .next t.normalEnd := rfl
@[simp] theorem State.finish_error (e : EngineError) : s.finish (.error e) = .next (s.errorEnd e) := rfl
@[simp] theorem State.finishComposed_ok (drawn t : State) : State.finishComposed drawn (.ok t) = .next t.normalEnd := rfl
@[simp] theorem State.finishComposed_error (drawn : State) (e : EngineError) :
    State.finishComposed drawn (.error e) = .next (drawn.errorEnd e) := rfl

/-- Every command ends its step in a next state: with its writes and a normal end, or with an error end. -/
theorem State.finish_cases {r : Result} {t : State} (h : s.finish r = .next t) :
    (∃ u, r = .ok u ∧ t = u.normalEnd) ∨ (∃ e, r = .error e ∧ t = s.errorEnd e) := by
  cases r with
  | ok u => exact .inl ⟨u, rfl, by simpa using h.symm⟩
  | error e => exact .inr ⟨e, rfl, by simpa using h.symm⟩

theorem State.finishComposed_cases {drawn : State} {r : Result} {t : State}
    (h : State.finishComposed drawn r = .next t) :
    (∃ u, r = .ok u ∧ t = u.normalEnd) ∨ (∃ e, r = .error e ∧ t = drawn.errorEnd e) := by
  cases r with
  | ok u => exact .inl ⟨u, rfl, by simpa using h.symm⟩
  | error e => exact .inr ⟨e, rfl, by simpa using h.symm⟩

/-- A raised error has a code other than 0. -/
theorem EngineError.code_ne_none (e : EngineError) : e.code ≠ .none := by cases e <;> simp [EngineError.code]

/-! ## Sequencing -/

@[simp] theorem bind_ok {α β : Type} (a : α) (f : α → Except EngineError β) : (Except.ok a >>= f) = f a := rfl
@[simp] theorem bind_error {α β : Type} (e : EngineError) (f : α → Except EngineError β) :
    (Except.error e >>= f) = Except.error e := rfl

/-- A sequence succeeds exactly when each of its parts does. -/
theorem bind_eq_ok {α β : Type} {x : Except EngineError α} {f : α → Except EngineError β} {b : β} :
    (x >>= f) = .ok b ↔ ∃ a, x = .ok a ∧ f a = .ok b := by
  cases x <;> simp

/-! ## The checks -/

theorem State.checkVersion_eq_ok {v : Nat} :
    s.checkVersion = .ok v ↔ v = s.version.toNat ∧ 1 ≤ v ∧ v ≤ 40 := by
  unfold State.checkVersion
  simp only [Config.vMax]
  split
  · simp
    omega
  · simp
    omega

theorem State.checkVersion_eq_error {e : EngineError} :
    s.checkVersion = .error e ↔
      (s.version.toNat < 1 ∨ 40 < s.version.toNat) ∧ e = .invalidParameter .version (Word.ofNat s.version.toNat) := by
  unfold State.checkVersion
  simp only [Config.vMax]
  split
  · rename_i h
    constructor
    · intro he
      exact ⟨h, by simpa using he.symm⟩
    · rintro ⟨-, rfl⟩
      rfl
  · rename_i h
    constructor
    · intro he
      cases he
    · rintro ⟨h', -⟩
      exact absurd h' h

theorem State.checkGrid_eq_ok {n : Nat} : s.checkGrid = .ok n ↔ s.modcnt ≠ 0#32 ∧ n = s.modcnt.toNat := by
  unfold State.checkGrid
  split
  · rename_i h
    simp [h]
  · rename_i h
    simp [h, eq_comm]

theorem State.checkStage_eq_ok {n : Nat} : s.checkStage n = .ok () ↔ s.arg0.toNat + n ≤ 8192 := by
  unfold State.checkStage State.arg0Unsigned
  simp only [Config.stageMax]
  split
  · simp
    omega
  · simp
    omega

theorem State.checkStage_eq_error {n : Nat} {e : EngineError} :
    s.checkStage n = .error e ↔ 8192 < s.arg0.toNat + n ∧ e = .invalidParameter .stageRange s.arg0 := by
  unfold State.checkStage State.arg0Unsigned
  simp only [Config.stageMax]
  split
  · rename_i h
    constructor
    · intro he
      exact ⟨h, by simpa using he.symm⟩
    · rintro ⟨-, rfl⟩
      rfl
  · rename_i h
    constructor
    · intro he
      cases he
    · rintro ⟨h', -⟩
      exact absurd h' h

theorem fit_eq_ok {q r : Poly} : fit q = .ok r ↔ r = q ∧ q.length ≤ 256 := by
  unfold fit
  simp only [Config.polyMax]
  split
  · simp
    omega
  · simp [eq_comm]
    omega

theorem State.writePoly_eq_ok {d : PReg} {q : Poly} {t : State} :
    s.writePoly d q = .ok t ↔ q.length ≤ 256 ∧ t = s.setPoly d q := by
  unfold State.writePoly fit
  simp only [Config.polyMax]
  split
  · simp [Except.map]
    omega
  · simp [Except.map, eq_comm]
    omega

/-- An append that fits adds the bits and writes BITLEN; one that does not writes nothing (R112). -/
theorem State.append_eq_ok {bits : List Bool} {t : State} :
    s.append bits = .ok t ↔
      s.bb.length + bits.length ≤ 32768 ∧
        t = { s with bb := s.bb ++ bits, bitlen := Word.ofNat (s.bb.length + bits.length) } := by
  unfold State.append
  simp only [Config.bbBits]
  split
  · simp
    omega
  · simp [eq_comm]
    omega

theorem State.append_eq_error {bits : List Bool} {e : EngineError} :
    s.append bits = .error e ↔
      32768 < s.bb.length + bits.length ∧
        e = .resourceOverflow .bitBuffer (Word.ofNat (s.bb.length + bits.length)) := by
  unfold State.append
  simp only [Config.bbBits]
  split
  · rename_i h
    constructor
    · intro he
      exact ⟨h, by simpa using he.symm⟩
    · rintro ⟨-, rfl⟩
      rfl
  · rename_i h
    constructor
    · intro he
      cases he
    · rintro ⟨h', -⟩
      exact absurd h' h

/-- The parameters of the block table pass R172 exactly when their three bounds hold. -/
theorem State.checkDescriptors_eq_ok {bs : List Block} :
    s.checkDescriptors = .ok bs ↔
      bs = s.blocks ∧ s.blkcnt ≠ 0#8 ∧ s.blkcnt.toNat ≤ 128 ∧ ∀ b ∈ bs, b.valid = true := by
  have hz : s.blkcnt = 0#8 ↔ s.blkcnt.toNat = 0 := by simp [BitVec.toNat_eq]
  unfold State.checkDescriptors
  simp only [Config.blkMax]
  split
  · rename_i h
    simp only [reduceCtorEq, false_iff, not_and]
    intro _ h1 h2
    rw [ne_eq, hz] at h1
    omega
  · rename_i h
    split
    · rename_i k hk
      simp only [reduceCtorEq, false_iff, not_and]
      rintro rfl - - hv
      have hk' := (List.findIdx?_eq_some_iff_findIdx_eq.mp hk)
      have hlt : s.blocks.findIdx (fun b => !b.valid) < s.blocks.length := by omega
      have := List.findIdx_getElem (xs := s.blocks) (p := fun b => !b.valid) (w := hlt)
      rw [hv _ (List.getElem_mem hlt)] at this
      simp at this
    · rename_i hk
      rw [List.findIdx?_eq_none_iff] at hk
      constructor
      · intro he
        have : s.blocks = bs := by simpa using he
        subst this
        refine ⟨rfl, ?_, by omega, fun b hb => by simpa using hk b hb⟩
        rw [ne_eq, hz]
        omega
      · rintro ⟨rfl, -⟩
        rfl

theorem checkTotal_eq_ok {bs : List Block} : checkTotal bs = .ok () ↔ totalCodewords bs ≤ 4096 := by
  unfold checkTotal
  simp only [Config.cwMax]
  split
  · simp
    omega
  · simp
    omega

theorem State.checkBlockIndex_eq_ok {k : BitVec 8} : s.checkBlockIndex k = .ok () ↔ k.toNat < s.blkcnt.toNat := by
  unfold State.checkBlockIndex
  split
  · simp
    omega
  · simp
    omega

/-- RS.BLOCK completes exactly when the whole of R172's check passes and the index is a block's (R175). -/
theorem rsBlockBody_eq_ok {k : BitVec 8} {t : State} :
    rsBlockBody k s = .ok t ↔
      s.checkBlocks = .ok s.blocks ∧ k.toNat < s.blkcnt.toNat ∧
        t = (s.storeBlockEcc s.blocks k.toNat).setResult ((s.blocks.map (·.ec)).getD k.toNat 0) := by
  unfold rsBlockBody State.checkBlocks
  simp only [bind_eq_ok, State.checkDescriptors_eq_ok, Except.ok.injEq]
  constructor
  · rintro ⟨_, ⟨rfl, h⟩, _, hk, _, ht, rfl⟩
    exact ⟨⟨_, ⟨rfl, h⟩, _, ht, rfl⟩, (State.checkBlockIndex_eq_ok s).mp hk, rfl⟩
  · rintro ⟨⟨_, ⟨rfl, h⟩, _, ht, -⟩, hk, rfl⟩
    exact ⟨_, ⟨rfl, h⟩, (), (State.checkBlockIndex_eq_ok s).mpr hk, _, ht, rfl⟩

/-- With good table parameters, an index that is no block's is RS.BLOCK's error, whatever the sum of tc (R235, log 19). -/
theorem rsBlockBody_eq_index_error {k : BitVec 8} {bs : List Block} (h : s.checkDescriptors = .ok bs)
    (hk : s.blkcnt.toNat ≤ k.toNat) :
    rsBlockBody k s = .error (.invalidParameter .blockIndex (k.setWidth 32)) := by
  unfold rsBlockBody State.checkBlockIndex
  rw [h, bind_ok, if_pos hk, bind_error]

/-- The block table passes R172 exactly when its four bounds hold; the check gives the descriptors. -/
theorem State.checkBlocks_eq_ok {bs : List Block} :
    s.checkBlocks = .ok bs ↔
      bs = s.blocks ∧ s.blkcnt ≠ 0#8 ∧ s.blkcnt.toNat ≤ 128 ∧ (∀ b ∈ bs, b.valid = true) ∧
        totalCodewords bs ≤ 4096 := by
  unfold State.checkBlocks
  simp only [bind_eq_ok, State.checkDescriptors_eq_ok, Except.ok.injEq]
  constructor
  · rintro ⟨_, ⟨h1, h2, h3, h4⟩, _, h5, rfl⟩
    exact ⟨h1, h2, h3, h4, checkTotal_eq_ok.mp h5⟩
  · rintro ⟨h1, h2, h3, h4, h5⟩
    exact ⟨bs, ⟨h1, h2, h3, h4⟩, (), checkTotal_eq_ok.mpr h5, rfl⟩

/-! ## The port -/

/-- A read records one word: the location's, or a free one while `rst_n` is low or the engine is busy (R67, R251). -/
theorem State.hostRead_cases (loc : Location) :
    ((s.rstN = false ∨ (s.status.busy = true ∧ loc.readableBusy = false)) ∧ s.hostRead loc = s.readFree) ∨
      ((s.rstN = true ∧ (s.status.busy = true → loc.readableBusy = true)) ∧
        s.hostRead loc = { s with rdata := s.view loc }) := by
  unfold State.hostRead
  cases s.rstN <;> cases s.status.busy <;> cases loc.readableBusy <;> simp

/-- A word of the GRID window: 0 outside N x N, a cell's code inside, a free code where no cell exists (R63, log 20). -/
theorem State.gridWord_cases (r c : Nat) :
    (¬ (r < s.modcnt.toNat ∧ c < s.modcnt.toNat) ∧ s.gridWord r c = 0#32) ∨
      ((r < s.modcnt.toNat ∧ c < s.modcnt.toNat) ∧ cellExists r c ∧
        s.gridWord r c = (moduleCode (s.grid.get r c)).setWidth 32) ∨
      ((r < s.modcnt.toNat ∧ c < s.modcnt.toNat) ∧ ¬ cellExists r c ∧
        s.gridWord r c = (Config.absentCell r c).setWidth 32) := by
  unfold State.gridWord
  split_ifs with h h'
  · exact .inr (.inl ⟨h, h', rfl⟩)
  · exact .inr (.inr ⟨h, h', rfl⟩)
  · exact .inl ⟨h, rfl⟩

/-! ## Whose turn it is -/

theorem State.engineMoves_iff :
    s.engineMoves = true ↔ s.rstN = true ∧ s.status.busy = true ∧ (s.delay = 0 ∨ s.inputs = []) := by
  simp [State.engineMoves, and_assoc]

/-- The step of an engine that moves: the meaning of the decoded command, or the IllegalCommand error. -/
theorem step_engineMoves (h : s.engineMoves = true) :
    step s = match s.pending with
      | .ok i => exec i s
      | .error _ => .next s.illegalStep :=
  Eq.trans (if_pos h) (by cases s.pending <;> rfl)

/-- The step of an engine that does not move: the next host input. -/
theorem step_input (h : s.engineMoves = false) : step s = s.inputStep := by
  unfold step
  rw [if_neg (by simp [h])]

/-- A pending word is performed by the next step (log 1). -/
theorem step_withPending (w : Word) :
    step (s.withPending w) = match decode w with
      | .ok i => exec i (s.withPending w)
      | .error _ => .next (s.withPending w).illegalStep := by
  have h : (s.withPending w).engineMoves = true := by
    rw [State.engineMoves_iff]
    simp
  rw [step_engineMoves _ h]
  show (match decode w with | .ok i => _ | .error _ => _) = _
  cases decode w <;> rfl

end Sys2Proof.Machine
end

