-- ==== Sys2Proof/Laws/PerInstr.lean ====
section
/-!
SUPPORT. Per-instruction facts about the syntax: the word the encoder gives a command is matched by the command's own row
of the opcode map (R95).
-/

namespace Sys2Proof.Laws.EncodeRow

/-- The command's row of R95, by its place in the map. -/
def rowIndex : Instr → Nat
  | .nop => 0
  | .gfExp => 1
  | .gfLog => 2
  | .gfMul => 3
  | .pClr _ => 4
  | .pLoad _ _ => 5
  | .pStore _ => 6
  | .pShl _ _ _ => 7
  | .pMul _ _ _ => 8
  | .pMod _ _ _ => 9
  | .pGen _ _ => 10
  | .rsBlock _ => 11
  | .rsAll => 12
  | .cwIlv => 13
  | .bwRst => 14
  | .bwPut _ => 15
  | .bwBit _ => 16
  | .bwSeg _ => 17
  | .bwFin => 18
  | .mxClr => 19
  | .mxFnd => 20
  | .mxAln => 21
  | .mxTim => 22
  | .mxFmt _ _ => 23
  | .mxVer _ => 24
  | .mxMap _ => 25
  | .mxBuild _ _ => 26
  | .mxPen => 27
  | .mxSel => 28
  | .qBuild => 29

/-- "a word w spells the command when `(w & mask) == match`" (R95), for the row of the command. -/
def Statement (i : Instr) : Prop :=
  ∃ row, opcodeMap[rowIndex i]? = some row ∧ encode i &&& row.mask = row.pattern

theorem nop : Statement (.nop) := by
  exact ⟨_, rfl, by decide⟩

theorem gfExp : Statement (.gfExp) := by
  exact ⟨_, rfl, by decide⟩

theorem gfLog : Statement (.gfLog) := by
  exact ⟨_, rfl, by decide⟩

theorem gfMul : Statement (.gfMul) := by
  exact ⟨_, rfl, by decide⟩

theorem pClr (d : PReg) : Statement (.pClr d) := by
  have h0 : placedReg 20 d &&& 0xFF8FFFFF#32 = 0#32 := by revert d; decide +kernel
  refine ⟨⟨"P.CLR", 0x10000000#32, 0xFF8FFFFF#32⟩, rfl, ?_⟩
  show (0x10000000#32 ||| placedReg 20 d) &&& 0xFF8FFFFF#32 = 0x10000000#32
  simp [BitVec.and_or_distrib_right, h0]

theorem pLoad (d : PReg) (len : BitVec 9) : Statement (.pLoad d len) := by
  have h0 : placedReg 20 d &&& 0xFF8FFE00#32 = 0#32 := by revert d; decide +kernel
  have h1 : placed 0 len &&& 0xFF8FFE00#32 = 0#32 := by revert len; decide +kernel
  refine ⟨⟨"P.LOAD", 0x11000000#32, 0xFF8FFE00#32⟩, rfl, ?_⟩
  show (0x11000000#32 ||| placedReg 20 d ||| placed 0 len) &&& 0xFF8FFE00#32 = 0x11000000#32
  simp [BitVec.and_or_distrib_right, h0, h1]

theorem pStore (a : PReg) : Statement (.pStore a) := by
  have h0 : placedReg 16 a &&& 0xFFF8FFFF#32 = 0#32 := by revert a; decide +kernel
  refine ⟨⟨"P.STORE", 0x12000000#32, 0xFFF8FFFF#32⟩, rfl, ?_⟩
  show (0x12000000#32 ||| placedReg 16 a) &&& 0xFFF8FFFF#32 = 0x12000000#32
  simp [BitVec.and_or_distrib_right, h0]

theorem pShl (d a : PReg) (n : BitVec 8) : Statement (.pShl d a n) := by
  have h0 : placedReg 20 d &&& 0xFF88FF00#32 = 0#32 := by revert d; decide +kernel
  have h1 : placedReg 16 a &&& 0xFF88FF00#32 = 0#32 := by revert a; decide +kernel
  have h2 : placed 0 n &&& 0xFF88FF00#32 = 0#32 := by revert n; decide +kernel
  refine ⟨⟨"P.SHL", 0x13000000#32, 0xFF88FF00#32⟩, rfl, ?_⟩
  show (0x13000000#32 ||| placedReg 20 d ||| placedReg 16 a ||| placed 0 n) &&& 0xFF88FF00#32 = 0x13000000#32
  simp [BitVec.and_or_distrib_right, h0, h1, h2]

theorem pMul (d a b : PReg) : Statement (.pMul d a b) := by
  have h0 : placedReg 20 d &&& 0xFF888FFF#32 = 0#32 := by revert d; decide +kernel
  have h1 : placedReg 16 a &&& 0xFF888FFF#32 = 0#32 := by revert a; decide +kernel
  have h2 : placedReg 12 b &&& 0xFF888FFF#32 = 0#32 := by revert b; decide +kernel
  refine ⟨⟨"P.MUL", 0x14000000#32, 0xFF888FFF#32⟩, rfl, ?_⟩
  show (0x14000000#32 ||| placedReg 20 d ||| placedReg 16 a ||| placedReg 12 b) &&& 0xFF888FFF#32 = 0x14000000#32
  simp [BitVec.and_or_distrib_right, h0, h1, h2]

theorem pMod (d a b : PReg) : Statement (.pMod d a b) := by
  have h0 : placedReg 20 d &&& 0xFF888FFF#32 = 0#32 := by revert d; decide +kernel
  have h1 : placedReg 16 a &&& 0xFF888FFF#32 = 0#32 := by revert a; decide +kernel
  have h2 : placedReg 12 b &&& 0xFF888FFF#32 = 0#32 := by revert b; decide +kernel
  refine ⟨⟨"P.MOD", 0x15000000#32, 0xFF888FFF#32⟩, rfl, ?_⟩
  show (0x15000000#32 ||| placedReg 20 d ||| placedReg 16 a ||| placedReg 12 b) &&& 0xFF888FFF#32 = 0x15000000#32
  simp [BitVec.and_or_distrib_right, h0, h1, h2]

theorem pGen (d : PReg) (n : BitVec 8) : Statement (.pGen d n) := by
  have h0 : placedReg 20 d &&& 0xFF8FFF00#32 = 0#32 := by revert d; decide +kernel
  have h1 : placed 0 n &&& 0xFF8FFF00#32 = 0#32 := by revert n; decide +kernel
  refine ⟨⟨"P.GEN", 0x16000000#32, 0xFF8FFF00#32⟩, rfl, ?_⟩
  show (0x16000000#32 ||| placedReg 20 d ||| placed 0 n) &&& 0xFF8FFF00#32 = 0x16000000#32
  simp [BitVec.and_or_distrib_right, h0, h1]

theorem rsBlock (k : BitVec 8) : Statement (.rsBlock k) := by
  have h0 : placed 0 k &&& 0xFFFFFF00#32 = 0#32 := by revert k; decide +kernel
  refine ⟨⟨"RS.BLOCK", 0x20000000#32, 0xFFFFFF00#32⟩, rfl, ?_⟩
  show (0x20000000#32 ||| placed 0 k) &&& 0xFFFFFF00#32 = 0x20000000#32
  simp [BitVec.and_or_distrib_right, h0]

theorem rsAll : Statement (.rsAll) := by
  exact ⟨_, rfl, by decide⟩

theorem cwIlv : Statement (.cwIlv) := by
  exact ⟨_, rfl, by decide⟩

theorem bwRst : Statement (.bwRst) := by
  exact ⟨_, rfl, by decide⟩

theorem bwPut (n : BitVec 5) : Statement (.bwPut n) := by
  have h0 : placed 0 n &&& 0xFFFFFFE0#32 = 0#32 := by revert n; decide +kernel
  refine ⟨⟨"BW.PUT", 0x31000000#32, 0xFFFFFFE0#32⟩, rfl, ?_⟩
  show (0x31000000#32 ||| placed 0 n) &&& 0xFFFFFFE0#32 = 0x31000000#32
  simp [BitVec.and_or_distrib_right, h0]

theorem bwBit (b : Bool) : Statement (.bwBit b) := by
  have h0 : placedBit 0 b &&& 0xFFFFFFFE#32 = 0#32 := by revert b; decide +kernel
  refine ⟨⟨"BW.BIT", 0x32000000#32, 0xFFFFFFFE#32⟩, rfl, ?_⟩
  show (0x32000000#32 ||| placedBit 0 b) &&& 0xFFFFFFFE#32 = 0x32000000#32
  simp [BitVec.and_or_distrib_right, h0]

theorem bwSeg (mode : SegMode) : Statement (.bwSeg mode) := by
  have h0 : placed 0 (modeCode mode) &&& 0xFFFFFFFC#32 = 0#32 := by cases mode <;> decide
  refine ⟨⟨"BW.SEG", 0x33000000#32, 0xFFFFFFFC#32⟩, rfl, ?_⟩
  show (0x33000000#32 ||| placed 0 (modeCode mode)) &&& 0xFFFFFFFC#32 = 0x33000000#32
  simp [BitVec.and_or_distrib_right, h0]

theorem bwFin : Statement (.bwFin) := by
  exact ⟨_, rfl, by decide⟩

theorem mxClr : Statement (.mxClr) := by
  exact ⟨_, rfl, by decide⟩

theorem mxFnd : Statement (.mxFnd) := by
  exact ⟨_, rfl, by decide⟩

theorem mxAln : Statement (.mxAln) := by
  exact ⟨_, rfl, by decide⟩

theorem mxTim : Statement (.mxTim) := by
  exact ⟨_, rfl, by decide⟩

theorem mxFmt (m : MaskId) (trial : Bool) : Statement (.mxFmt m trial) := by
  have h0 : placedReg 0 m &&& 0xFFFFFFF0#32 = 0#32 := by revert m; decide +kernel
  have h1 : placedBit 3 trial &&& 0xFFFFFFF0#32 = 0#32 := by revert trial; decide +kernel
  refine ⟨⟨"MX.FMT", 0x44000000#32, 0xFFFFFFF0#32⟩, rfl, ?_⟩
  show (0x44000000#32 ||| placedReg 0 m ||| placedBit 3 trial) &&& 0xFFFFFFF0#32 = 0x44000000#32
  simp [BitVec.and_or_distrib_right, h0, h1]

theorem mxVer (trial : Bool) : Statement (.mxVer trial) := by
  have h0 : placedBit 0 trial &&& 0xFFFFFFFE#32 = 0#32 := by revert trial; decide +kernel
  refine ⟨⟨"MX.VER", 0x45000000#32, 0xFFFFFFFE#32⟩, rfl, ?_⟩
  show (0x45000000#32 ||| placedBit 0 trial) &&& 0xFFFFFFFE#32 = 0x45000000#32
  simp [BitVec.and_or_distrib_right, h0]

theorem mxMap (m : MaskId) : Statement (.mxMap m) := by
  have h0 : placedReg 0 m &&& 0xFFFFFFF8#32 = 0#32 := by revert m; decide +kernel
  refine ⟨⟨"MX.MAP", 0x46000000#32, 0xFFFFFFF8#32⟩, rfl, ?_⟩
  show (0x46000000#32 ||| placedReg 0 m) &&& 0xFFFFFFF8#32 = 0x46000000#32
  simp [BitVec.and_or_distrib_right, h0]

theorem mxBuild (m : MaskId) (trial : Bool) : Statement (.mxBuild m trial) := by
  have h0 : placedReg 0 m &&& 0xFFFFFFF0#32 = 0#32 := by revert m; decide +kernel
  have h1 : placedBit 3 trial &&& 0xFFFFFFF0#32 = 0#32 := by revert trial; decide +kernel
  refine ⟨⟨"MX.BUILD", 0x47000000#32, 0xFFFFFFF0#32⟩, rfl, ?_⟩
  show (0x47000000#32 ||| placedReg 0 m ||| placedBit 3 trial) &&& 0xFFFFFFF0#32 = 0x47000000#32
  simp [BitVec.and_or_distrib_right, h0, h1]

theorem mxPen : Statement (.mxPen) := by
  exact ⟨_, rfl, by decide⟩

theorem mxSel : Statement (.mxSel) := by
  exact ⟨_, rfl, by decide⟩

theorem qBuild : Statement (.qBuild) := by
  exact ⟨_, rfl, by decide⟩

end Sys2Proof.Laws.EncodeRow
end

