-- ==== Sys2Proof/Tests/Slice0.lean ====
section
/-!
SUPPORT. Tests: the smoke test of WellFormed, decoding by words written out bit by bit from R92-R95, one step per
command with results taken from 95_test_vectors.md (or from the rule named), and for each statement with hypotheses a
witness that meets them.
-/

set_option Elab.async false

namespace Sys2Proof.Tests

open Sys2Proof.Machine Sys2Proof.Claims

/-! ## WellFormed -/

theorem test_wellFormed_refuses_length_0 : ¬ (Instr.pLoad 0 0#9).WellFormed := by decide
theorem test_wellFormed_refuses_length_257 : ¬ (Instr.pLoad 0 257#9).WellFormed := by decide
theorem test_wellFormed_refuses_length_511 : ¬ (Instr.pLoad 7 511#9).WellFormed := by decide
theorem test_wellFormed_accepts : (Instr.pLoad 0 1#9).WellFormed ∧ (Instr.pLoad 7 256#9).WellFormed ∧
    Instr.nop.WellFormed := by decide

/-! ## Decoding: OP, 0, D, 0, A, 0, B, IMM (R92, R95) -/

/-- A word from its fields OP (8), D (3), A (3), B (3), IMM (12), with zeros between (R92). -/
def fields (op d a b imm : Nat) : Word :=
  BitVec.ofNat 32 (op * 2 ^ 24 + d * 2 ^ 20 + a * 2 ^ 16 + b * 2 ^ 12 + imm)

theorem test_decode_control_and_gf :
    [decode (fields 0b00000000 0 0 0 0), decode (fields 0b01010000 0 0 0 0), decode (fields 0b00000001 0 0 0 0),
      decode (fields 0b00000010 0 0 0 0), decode (fields 0b00000011 0 0 0 0)]
    = [.ok .nop, .ok .qBuild, .ok .gfExp, .ok .gfLog, .ok .gfMul] := by decide +kernel

theorem test_decode_polynomials :
    [decode (fields 0b00010000 0b101 0 0 0), decode (fields 0b00010001 0b010 0 0 0b000100000000),
      decode (fields 0b00010010 0 0b011 0 0), decode (fields 0b00010011 0b001 0b110 0 0b000011111111),
      decode (fields 0b00010100 0b010 0b000 0b001 0), decode (fields 0b00010101 0b011 0b010 0b111 0),
      decode (fields 0b00010110 0b100 0 0 0b000010000001)]
    = [.ok (.pClr 5), .ok (.pLoad 2 256#9), .ok (.pStore 3), .ok (.pShl 1 6 255#8), .ok (.pMul 2 0 1),
      .ok (.pMod 3 2 7), .ok (.pGen 4 129#8)] := by decide +kernel

theorem test_decode_assembler_and_bits :
    [decode (fields 0b00100000 0 0 0 0b000010000001), decode (fields 0b00100001 0 0 0 0),
      decode (fields 0b00100010 0 0 0 0), decode (fields 0b00110000 0 0 0 0),
      decode (fields 0b00110001 0 0 0 0b000000011111), decode (fields 0b00110010 0 0 0 1),
      decode (fields 0b00110011 0 0 0 0b11), decode (fields 0b00110100 0 0 0 0)]
    = [.ok (.rsBlock 129#8), .ok .rsAll, .ok .cwIlv, .ok .bwRst, .ok (.bwPut 31#5), .ok (.bwBit true),
      .ok (.bwSeg .kanji), .ok .bwFin] := by decide +kernel

theorem test_decode_matrix :
    [decode (fields 0b01000000 0 0 0 0), decode (fields 0b01000001 0 0 0 0), decode (fields 0b01000010 0 0 0 0),
      decode (fields 0b01000011 0 0 0 0), decode (fields 0b01000100 0 0 0 0b1101),
      decode (fields 0b01000101 0 0 0 0b1), decode (fields 0b01000110 0 0 0 0b110),
      decode (fields 0b01000111 0 0 0 0b0100), decode (fields 0b01001000 0 0 0 0), decode (fields 0b01001001 0 0 0 0)]
    = [.ok .mxClr, .ok .mxFnd, .ok .mxAln, .ok .mxTim, .ok (.mxFmt 5 true), .ok (.mxVer true), .ok (.mxMap 6),
      .ok (.mxBuild 4 false), .ok .mxPen, .ok .mxSel] := by decide +kernel

/-- The illegal words of 95_test_vectors.md, each rejected by its name. -/
theorem test_decode_rejects :
    [decode 0x31000020#32, decode 0x32000002#32, decode 0x11000000#32, decode 0x11000101#32, decode 0x10800000#32,
      decode 0x00000001#32, decode 0x04000000#32]
    = [.error .mustBeZero, .error .mustBeZero, .error .badLength, .error .badLength, .error .mustBeZero,
      .error .mustBeZero, .error .unassignedOpcode] := by decide +kernel

/-! ## One step -/

/-- The next state of an outcome. -/
def nextOf : Host.Outcome State Fault Refusal → Option State
  | .next t => some t
  | .fault _ => none
  | .refused _ => none

/-- A quantity of the state a command ends in. -/
def after {α : Type} (i : Instr) (s : State) (f : State → α) : Option α := (nextOf (exec i s)).map f

/-- What an error end records: code, ERRINFO0, ERRINFO1. -/
def errorOf (s : State) : ErrCode × Word × Word := (s.status.err, s.errinfo0, s.errinfo1)

/-- A state with two scalar arguments. -/
def withArgs (a b : Word) : State := { State.reset with arg0 := a, arg1 := b }

/-- A state with polynomial registers P0 and P1. -/
def withPolys (x y : Poly) : State := (State.reset.setPoly 0 x).setPoly 1 y

/-- A state with a segment staged at 0. -/
def withSegment (bytes : List Byte) : State :=
  { State.reset with stage := Memory.ofBytes bytes, arg1 := Word.ofNat bytes.length }

/-- A state with a block table, given by the words, and whole bytes in BB. -/
def withBlocks (words : List Word) (bytes : List Nat) : State :=
  let bits := bytes.flatMap (fun b => bitsMsbFirst b 8)
  { State.reset with
    blkcnt := BitVec.ofNat 8 words.length, blktab := Vector.ofFn (fun (k : Fin 128) => words.getD k.val 0#32),
    bb := bits, bitlen := Word.ofNat bits.length }

/-- A state with an empty grid of dimension n and an alignment table. -/
def withGrid (n : Nat) (centres : List Byte) : State :=
  { State.reset with
    modcnt := Word.ofNat n, alncnt := BitVec.ofNat 3 centres.length,
    alntab := Vector.ofFn (fun (k : Fin 7) => centres.getD k.val 0#8) }

/-- The bytes of the bit buffer. -/
def bufferBytes (s : State) : List Byte := (List.range ((s.bb.length + 7) / 8)).map (bbByte s.bb)

/-- Codes of a row of the grid. -/
def rowCodes (r lo hi : Nat) (s : State) : List Nat :=
  (List.range (hi - lo)).map (fun c => (moduleCode (s.grid.get r (lo + c))).toNat)

/-- "CMDCNT 5, DO NOP: CMDCNT 6, DONE 1". -/
theorem test_nop : after .nop { State.reset with cmdcnt := 5#32 } (fun t => (t.cmdcnt, t.status.done))
    = some (6#32, true) := by decide +kernel

theorem test_gfExp_table : after .gfExp (withArgs 8#32 0#32) (·.result) = some 0x1D#32 := by decide +kernel
theorem test_gfExp_negative : after .gfExp (withArgs 0xFFFFFFFF#32 0#32) (·.result) = some 0x8E#32 := by decide +kernel

theorem test_gfLog_last : after .gfLog (withArgs 0xFF#32 0#32) (·.result) = some 175#32 := by decide +kernel
theorem test_gfLog_of_256 : after .gfLog (withArgs 0x100#32 0#32) errorOf
    = some (.fieldArithmeticDomainError, 0x100#32, 0#32) := by decide +kernel

theorem test_gfMul : after .gfMul (withArgs 0x53#32 0xCA#32) (·.result) = some 0x8F#32 := by decide +kernel
theorem test_gfMul_second_operand : after .gfMul (withArgs 2#32 0xFFFFFFFF#32) errorOf
    = some (.fieldArithmeticDomainError, 0xFFFFFFFF#32, 0#32) := by decide +kernel

theorem test_pClr : after (.pClr 0) (withPolys [1, 2] [3]) (fun t => (t.poly 0, t.poly 1)) = some ([0], [3]) := by
  decide +kernel

theorem test_pLoad_strips : after (.pLoad 2 3#9) (withSegment [0, 0, 7]) (·.poly 2) = some [7] := by decide +kernel
theorem test_pLoad_range : after (.pLoad 0 3#9) (withArgs 8190#32 0#32) errorOf
    = some (.invalidParameter, 5#32, 8190#32) := by decide +kernel

theorem test_pStore : after (.pStore 0) { withPolys [3, 2] [0] with arg0 := 0x20#32 }
    (fun t => (t.stage.readBytes 0x1F 4, t.result)) = some ([0, 3, 2, 0], 2#32) := by decide +kernel
theorem test_pStore_range : after (.pStore 0) { withPolys [3, 2] [0] with arg0 := 8191#32 } errorOf
    = some (.invalidParameter, 5#32, 8191#32) := by decide +kernel

theorem test_pShl : after (.pShl 1 0 2#8) (withPolys [1, 2] [0]) (·.poly 1) = some [1, 2, 0, 0] := by decide +kernel
theorem test_pShl_of_zero : after (.pShl 0 0 255#8) (withPolys [0] [0]) (·.poly 0) = some [0] := by decide +kernel

theorem test_pMul_inner_zero : after (.pMul 2 0 1) (withPolys [5, 0, 7] [3]) (·.poly 2) = some [0x0F, 0, 9] := by
  decide +kernel
theorem test_pMul_square_in_place : after (.pMul 0 0 0) (withPolys [1, 2] [0]) (·.poly 0) = some [1, 0, 4] := by
  decide +kernel

theorem test_pMod : after (.pMod 2 0 1) (withPolys [1, 0, 0] [1, 3, 2]) (·.poly 2) = some [3, 2] := by decide +kernel
theorem test_pMod_by_zero : after (.pMod 2 0 1) (withPolys [1, 0, 0] [0]) errorOf
    = some (.fieldArithmeticDomainError, 0#32, 0#32) := by decide +kernel

theorem test_pGen : after (.pGen 1 7#8) State.reset (·.poly 1)
    = some [0x01, 0x7F, 0x7A, 0x9A, 0xA4, 0x0B, 0x44, 0x75] := by decide +kernel

theorem test_bwRst : after .bwRst (withBlocks [] [0xA5]) (fun t => (t.bb, t.bitlen)) = some ([], 0#32) := by
  decide +kernel
theorem test_bwPut : after (.bwPut 7#5) (withArgs 0x2D#32 0#32) (fun t => (bufferBytes t, t.bitlen))
    = some ([0x5A], 7#32) := by decide +kernel
theorem test_bwPut_ignores_high_bits : after (.bwPut 3#5) (withArgs 0xFFFFFFFF#32 0#32) bufferBytes
    = some [0xE0] := by decide +kernel
theorem test_bwBit : after (.bwBit true) { State.reset with bb := [false, true, false, true, true, false, true] }
    (fun t => (bufferBytes t, t.bitlen)) = some ([0x5B], 8#32) := by decide +kernel

theorem test_bwSeg_numeric : after (.bwSeg .numeric) (withSegment [0x30, 0x31, 0x32, 0x33, 0x34, 0x35, 0x36, 0x37])
    bufferBytes = some [0x10, 0x20, 0x0C, 0x56, 0x61, 0x80] := by decide +kernel
theorem test_bwSeg_kanji_range_ends : after (.bwSeg .kanji) (withSegment [0x81, 0x40, 0xEB, 0xBF]) bufferBytes
    = some [0x80, 0x20, 0x00, 0x7F, 0xFC] := by decide +kernel

/-- "HELLO WORLD" at version 1, level Q: 74 bits, capacity 104. -/
theorem test_bwFin : after .bwFin
    { withBlocks [0x001A000D#32] [0x20, 0x5B, 0x0B, 0x78, 0xD1, 0x72, 0xDC, 0x4D, 0x43, 0x40] with
      bb := ([0x20, 0x5B, 0x0B, 0x78, 0xD1, 0x72, 0xDC, 0x4D, 0x43, 0x40].flatMap
        (fun b => bitsMsbFirst b 8)).take 74 } bufferBytes
    = some [0x20, 0x5B, 0x0B, 0x78, 0xD1, 0x72, 0xDC, 0x4D, 0x43, 0x40, 0xEC, 0x11, 0xEC] := by decide +kernel
theorem test_bwFin_capacity : after .bwFin { withBlocks [0x00010001#32] [] with bb := List.replicate 9 false } errorOf
    = some (.capacityOverflow, 9#32, 8#32) := by decide +kernel

theorem test_rsBlock_pads_in_front : after (.rsBlock 0#8) (withBlocks [0x00040002#32] [3, 7])
    (fun t => (t.ecc.readBytes 0 2, t.result)) = some ([0, 4], 2#32) := by decide +kernel
/-- "BLKCNT = 1, BLKTAB[0] valid, RS.BLOCK #1: InvalidParameter(6, 1)", and the index before the sum of tc (D11). -/
theorem test_rsBlock_index :
    after (.rsBlock 1#8) (withBlocks [0x00040002#32] [3, 7]) errorOf = some (.invalidParameter, 6#32, 1#32) ∧
    after (.rsBlock 17#8) (withBlocks (List.replicate 17 0x00FA0064#32) []) errorOf
      = some (.invalidParameter, 6#32, 17#32) := by decide +kernel

/-- "17 blocks of (100, 250): ResourceOverflow(4, 4250)". -/
theorem test_rsAll_total : after .rsAll (withBlocks (List.replicate 17 0x00FA0064#32) []) errorOf
    = some (.resourceOverflow, 4#32, 4250#32) := by decide +kernel

theorem test_rsAll : after .rsAll (withBlocks [0x00040002#32, 0x00050003#32] [0x11, 0x22, 0x33, 0x44, 0x55])
    (fun t => (t.ecc.readBytes 0 4, t.result)) = some ([0x11, 0x22, 0x22, 0x00], 4#32) := by decide +kernel

theorem test_cwIlv : after .cwIlv
    { withBlocks [0x00040002#32, 0x00050003#32] [0x11, 0x22, 0x33, 0x44, 0x55] with
      ecc := Memory.ofBytes [0x11, 0x22, 0x22, 0x00] } (fun t => (t.cw.readBytes 0 9, t.cwlen))
    = some ([0x11, 0x33, 0x22, 0x44, 0x55, 0x11, 0x22, 0x22, 0x00], 9#32) := by decide +kernel

theorem test_mxClr : after .mxClr { State.reset with version := 7#6 } (·.modcnt) = some 45#32 := by decide +kernel
theorem test_mxClr_version_41 : after .mxClr { State.reset with version := 41#6 } errorOf
    = some (.invalidParameter, 1#32, 41#32) := by decide +kernel

/-- Row 0 reads "1111111 0 ????? 0 1111111" (R190). -/
theorem test_mxFnd : after .mxFnd (withGrid 21 []) (rowCodes 0 0 21)
    = some [2, 2, 2, 2, 2, 2, 2, 1, 0, 0, 0, 0, 0, 1, 2, 2, 2, 2, 2, 2, 2] := by decide +kernel
theorem test_mxFnd_needs_a_grid : after .mxFnd State.reset errorOf = some (.invalidParameter, 4#32, 0#32) := by
  decide +kernel

/-- N = 25, ALNTAB = 6, 18, with (6,6), (6,18), (18,6) assigned: rows 16 and 17 of the pattern at (18,18). -/
theorem test_mxAln : after .mxAln
    { withGrid 25 [6, 18] with grid := Grid.paintAll [] [(6, 6, true), (6, 18, true), (18, 6, true)] }
    (fun t => (rowCodes 16 15 22 t, rowCodes 17 15 22 t, rowCodes 5 4 9 t))
    = some ([0, 2, 2, 2, 2, 2, 0], [0, 2, 1, 1, 1, 2, 0], [0, 0, 0, 0, 0]) := by decide +kernel
theorem test_mxAln_bad_entry : after .mxAln (withGrid 21 [19]) errorOf = some (.invalidParameter, 3#32, 0#32) := by
  decide +kernel

theorem test_mxTim : after .mxTim (withGrid 21 []) (rowCodes 6 0 5) = some [2, 1, 2, 1, 2] := by decide +kernel

/-- R196's example: N = 21, level H, MX.FMT #4: vertical cells (0..5, 8) = 0 1 0 0 0 1 and the dark module. -/
theorem test_mxFmt : after (.mxFmt 4 false) (withGrid 21 [])
    (fun t => ([0, 1, 2, 3, 4, 5, 13].map fun r => (moduleCode (t.grid.get r 8)).toNat))
    = some [1, 2, 1, 1, 1, 2, 2] := by decide +kernel

/-- R198's example: N = 45: (0, 34), (0, 35), (0, 36) get bits 0, 0, 1 and the mirror cells the same. -/
theorem test_mxVer : after (.mxVer false) (withGrid 45 [])
    (fun t => (rowCodes 0 34 37 t, [34, 35, 36].map fun r => (moduleCode (t.grid.get r 0)).toNat))
    = some ([1, 1, 2], [1, 1, 2]) := by decide +kernel

/-- "after MX.CLR only, MX.MAP #0: RESULT = 441 - 21 = 420", and the first cell (20, 20): bit 0 flipped is dark. -/
theorem test_mxMap : after (.mxMap 0) (withGrid 21 []) (fun t => (t.result, t.grid.get 20 20, t.grid.get 20 6))
    = some (420#32, .dark, .unassigned) := by decide +kernel

theorem test_mxBuild : after (.mxBuild 0 true) State.reset (fun t => (t.result, t.modcnt)) = some (208#32, 21#32) := by
  decide +kernel

/-- A grid of one line pattern scored: 21 x 21 all light scores 798, 1200, 0, 100 (95_test_vectors.md, 2.7). -/
theorem test_mxPen : after .mxPen { withGrid 21 [] with grid := Grid.ofFn 21 (fun _ _ => .light) }
    (fun t => (t.penA, t.penB, t.penC, t.penD, t.penalty, t.darkcnt))
    = some (798#32, 1200#32, 0#32, 100#32, 2098#32, 0#32) := by decide +kernel
theorem test_mxPen_incomplete : after .mxPen
    { withGrid 21 [] with grid := Grid.ofFn 21 (fun _ c => if c = 6 then .unassigned else .light) } errorOf
    = some (.incompleteGrid, 0#32, 6#32) := by decide +kernel

theorem test_mxSel_bad_version : after .mxSel { State.reset with version := 0#6 } errorOf
    = some (.invalidParameter, 1#32, 0#32) := by decide +kernel

theorem test_qBuild_no_table : after .qBuild State.reset errorOf
    = some (.invalidParameter, 2#32, 0xFFFFFFFF#32) := by decide +kernel

/-! ## The port -/

/-- "R CAP0; R ID; R PLEN[3]" after reset. -/
theorem test_port_reads :
    [State.reset.view (locate 0xC0), State.reset.view (locate 0), State.reset.view (locate 0xAC)]
    = [0x01008028#32, 0x47465045#32, 1#32] := by decide +kernel

/-- R26: a CTRL write with wdata[0] = 0 stores wdata[1] in IE_DONE and wdata[2] in IE_ERR, and CTRL reads them there. -/
theorem test_port_ctrl :
    let t := State.reset.hostWrite (locate 4) 2#32
    (t.ieDone, t.ieErr, t.view .ctrl, (t.hostWrite .ctrl 4#32).view .ctrl) = (true, false, 2#32, 4#32) := by
  decide +kernel

/-- "BUSY = 1, W ARG0, 7: dropped. DROP = 1, ARG0 unchanged". -/
theorem test_port_busy_write :
    let t := (State.reset.withPending 0#32).hostWrite (locate 0x10) 7#32
    (t.arg0, t.status.drop) = (0#32, true) := by decide +kernel

/-- "ERR = 5, W CMD: dropped, ERR still 5" and "DONE = 1, DROP = 1, W STATUS, 0x2: DONE 0, DROP 1". -/
theorem test_port_error_and_status :
    let s := { State.reset with
      status := { busy := false, done := true, drop := false, err := .fieldArithmeticDomainError } }
    let t := s.hostWrite .cmd 0#32
    (t.view .status, (t.hostWrite .status 2#32).view .status) = (0x506#32, 0x504#32) := by decide +kernel

/-! ## Witnesses: for each statement with hypotheses, states and operands that meet them -/

theorem witness_DecodeOfEncode : (Instr.pLoad 0 256#9).WellFormed ∧ (Instr.pLoad 7 1#9).WellFormed := by decide

theorem witness_EncodeOfDecode : decode 0x11000100#32 = .ok (.pLoad 0 256#9) := by decide +kernel

/-- A pending illegal word, and the ends of the unassigned ranges. -/
theorem witness_IllegalWordsAreAnswered :
    (State.reset.withPending 0x04000000#32).engineMoves = true ∧
    decode (State.reset.withPending 0x04000000#32).cmd = .error .unassignedOpcode ∧
    ([0x04, 0x0F, 0x17, 0x1F, 0x23, 0x2F, 0x35, 0x3F, 0x4A, 0x4F, 0x51, 0xFF].map
      fun op => decode (fields op 0 0 0 0)) = List.replicate 12 (.error .unassignedOpcode) := by decide +kernel

/-- A pending command; an idle engine with no input, with an input, and with a CMD write. -/
theorem witness_StepRunsTheDecodedCommand :
    (let s := State.reset.withPending 0#32
     s.rstN = true ∧ s.status.busy = true ∧ s.delay = 0 ∧ decode s.cmd = .ok .nop) ∧
    (State.reset.engineMoves = false ∧ State.reset.inputs = []) ∧
    (let s := { State.reset with inputs := [.wait] }
     s.engineMoves = false ∧ s.inputs = .wait :: []) ∧
    (let s := { State.reset with inputs := [.write 4 0x0000C#20 0#32] }
     s.rstN = true ∧ s.status.busy = false ∧ s.ErrorFree ∧ s.inputs = .write 4 0x0000C#20 0#32 :: []) := by
  decide +kernel

theorem witness_WaitingHostSeesTheCommandPerformed :
    (let s := { State.reset.withPending 0#32 with inputs := [.wait, .wait], delay := 2 }
     s.rstN = true ∧ s.status.busy = true ∧ (∀ i ∈ s.inputs, i = .wait) ∧ decode s.cmd = .ok .nop ∧
       s.inputs = .wait :: [.wait]) ∧
    (let s := State.reset.withPending 1#32
     s.rstN = true ∧ s.status.busy = true ∧ (∀ i ∈ s.inputs, i = .wait) ∧ decode s.cmd = .error .mustBeZero) := by
  decide +kernel

/-- A busy engine, an engine in error, and an idle one. -/
def busyState : State := State.reset.withPending 0#32
def errorState : State := State.reset.errorEnd (.fieldArithmeticDomainError 0#32)

theorem witness_DroppedAndIgnoredWrites :
    (busyState.rstN = true ∧ busyState.status.busy = true ∧ ¬ (Location.ctrl = .ctrl ∧ (6#32).getLsbD 0 = true)) ∧
    (errorState.rstN = true ∧ errorState.status.busy = false ∧ ¬ errorState.ErrorFree) ∧
    (State.reset.rstN = true ∧ State.reset.status.busy = false ∧ readOnly .id = true ∧ readOnly .unmapped = true) := by
  decide +kernel

theorem witness_PortWhileBusyOrInError :
    (busyState.rstN = true ∧ busyState.status.busy = true ∧ (1#32).getLsbD 0 = true) ∧
    (errorState.rstN = true ∧ errorState.status.busy = false ∧ ¬ errorState.ErrorFree) := by decide +kernel

theorem witness_ResetsRestoreEverything : busyState.rstN = true ∧ (1#32).getLsbD 0 = true := by decide +kernel

theorem witness_StatusWordAndInterrupt : State.reset.rstN = true ∧ State.reset.status.busy = false ∧
    ¬ (Location.status = .ctrl ∧ (7#32).getLsbD 0 = true) ∧ (7#32).getLsbD 0 = true ∧ (6#32).getLsbD 0 = false ∧
    busyState.rstN = true := by decide +kernel

theorem witness_PortReadsAndWrites : (errorState.rstN = true ∧ errorState.status.busy = false) ∧ State.reset.rstN = true ∧ State.reset.status.busy = false ∧
    [Location.arg0, .version, .eclevel, .blkcnt, .alncnt, .alntab 6, .blktab 127, .stage 8191].map writable
      = [some 32, some 6, some 2, some 8, some 3, some 8, some 32, some 8] := by decide +kernel

/-- A plain command, and each composed one, ending in an error. -/
theorem witness_ErrorEndChangesOnlyWhatItMay :
    let s := { State.reset with version := 0#6 }
    s.ErrorFree ∧ after .gfLog s (·.status.err) = some .fieldArithmeticDomainError ∧
    after (.mxBuild 0 true) s (·.status.err) = some .invalidParameter ∧
    after .mxSel s (·.status.err) = some .invalidParameter ∧
    after .qBuild s (·.status.err) = some .invalidParameter := by decide +kernel

theorem witness_CommandsChangeOnlyTheirWritesLists : (nextOf (exec .gfExp State.reset)).isSome = true := by
  decide +kernel

theorem witness_OnlyAccessesOutsideTheInterfaceAreRefused :
    ({ State.reset with inputs := [.read 2 0#20] }.engineMoves = false) ∧ ¬ (2 = 4 ∧ (0#20).toNat % 4 = 0) ∧
    ({ State.reset with inputs := [.write 4 1#20 0#32] }.engineMoves = false) ∧
    ¬ (4 = 4 ∧ (1#20).toNat % 4 = 0) := by decide +kernel

/-- A state with a pending command meets the invariant, and its step answers a next state. -/
theorem witness_StepKeepsTheInvariant : busyState.Inv ∧ (nextOf (step busyState)).isSome = true := by
  refine ⟨?_, by decide +kernel⟩
  constructor <;> decide +kernel

theorem witness_StepKeepsEccInRange : busyState.Inv ∧ busyState.ecc.within 4096 = true ∧
    (nextOf (step busyState)).isSome = true :=
  ⟨witness_StepKeepsTheInvariant.1, by decide +kernel, witness_StepKeepsTheInvariant.2⟩

theorem witness_GfLogIsTheDiscreteLogarithm :
    (1 ≤ (1#32).toInt ∧ (1#32).toInt ≤ 255) ∧ (1 ≤ (255#32).toInt ∧ (255#32).toInt ≤ 255) ∧
    (0#32).toInt < 1 ∧ 255 < (256#32).toInt ∧ (0xFFFFFFFF#32).toInt < 1 := by decide +kernel

theorem witness_GfMulIsTheFieldProduct :
    (0 ≤ (0#32).toInt ∧ (0#32).toInt ≤ 255) ∧ (0 ≤ (255#32).toInt ∧ (255#32).toInt ≤ 255) ∧
    255 < (256#32).toInt ∧ (0xFFFFFFFF#32).toInt < 0 := by decide +kernel

theorem witness_FieldLaws : (1#8 ≠ 0#8) ∧ 254 < 255 ∧ gmul 0#8 1#8 = 0#8 := by decide +kernel

theorem witness_NopAndPClr : (1#32).toNat / 2 ^ 24 = 0 ∧ (1#32) ≠ 0#32 := by decide +kernel

/-- The last range that fits and the first that does not, at the least and the greatest length. -/
theorem witness_PLoadStripsLeadingZeros :
    (1 ≤ (1#9).toNat ∧ (8191#32).toNat + (1#9).toNat ≤ 8192 ∧ 8192 < (8192#32).toNat + (1#9).toNat) ∧
    ((256#9).toNat ≤ 256 ∧ (7936#32).toNat + (256#9).toNat ≤ 8192 ∧ 8192 < (7937#32).toNat + (256#9).toNat) := by
  decide +kernel

theorem witness_PStoreWritesOnlyItsRange :
    (withArgs 8191#32 0#32).arg0.toNat + ((withArgs 8191#32 0#32).poly 0).length ≤ 8192 ∧
    8192 < (withArgs 8192#32 0#32).arg0.toNat + ((withArgs 8192#32 0#32).poly 0).length := by decide +kernel

theorem witness_PShlAppendsZeros :
    State.reset.poly 0 = [0#8] ∧
    ((withPolys [1] [0]).poly 0 ≠ [0#8] ∧ ((withPolys [1] [0]).poly 0).length + (255#8).toNat ≤ 256) ∧
    ((withPolys [1, 0] [0]).poly 0 ≠ [0#8] ∧ 256 < ((withPolys [1, 0] [0]).poly 0).length + (255#8).toNat) := by
  decide +kernel

/-- Lengths 128 and 129 make 256, 129 and 129 make 257. -/
theorem witness_PMulIsTheConvolution :
    (polyOk (State.reset.poly 0) = true ∧ State.reset.poly 0 = [0#8]) ∧
    (let s := withPolys (List.replicate 128 1) (List.replicate 129 1)
     polyOk (s.poly 0) = true ∧ polyOk (s.poly 1) = true ∧ s.poly 0 ≠ [0#8] ∧ s.poly 1 ≠ [0#8] ∧
       (s.poly 0).length + (s.poly 1).length - 1 = 256) ∧
    (let s := withPolys (List.replicate 129 1) (List.replicate 129 1)
     polyOk (s.poly 0) = true ∧ s.poly 0 ≠ [0#8] ∧ (s.poly 0).length + (s.poly 1).length - 1 = 257) := by
  decide +kernel

theorem witness_PModLeavesALowerDegree :
    (polyOk (State.reset.poly 1) = true ∧ State.reset.poly 1 = [0#8]) ∧
    (let s := withPolys [7, 3] [1]
     polyOk (s.poly 0) = true ∧ polyOk (s.poly 1) = true ∧ s.poly 1 ≠ [0#8]) ∧
    (let s := withPolys [1, 2] [1, 2, 3]
     polyOk (s.poly 0) = true ∧ polyOk (s.poly 1) = true ∧ s.poly 1 ≠ [0#8] ∧
       (s.poly 0).length < (s.poly 1).length) := by decide +kernel

theorem witness_PModIsTheRemainder :
    let s := withPolys [1, 3] [1, 3]
    polyOk (s.poly 0) = true ∧ polyOk (s.poly 1) = true ∧ s.poly 1 ≠ [0#8] ∧
      (s.poly 1).length ≤ (s.poly 0).length := by decide +kernel

/-- A buffer of `n` bits, and an argument. -/
def withBits (n : Nat) (arg0 : Word) : State := { State.reset with bb := List.replicate n false, arg0 := arg0 }

theorem withBits_length (n : Nat) (a : Word) : (withBits n a).bb.length = n := List.length_replicate

theorem witness_BitWriterAppends :
    (withBits 32737 0#32).bb.length + (31#5).toNat ≤ 32768 ∧ 32768 < (withBits 32738 0#32).bb.length + (31#5).toNat ∧
    (withBits 32767 0#32).bb.length + 1 ≤ 32768 ∧ 32768 < (withBits 32768 0#32).bb.length + 1 := by
  simp only [withBits_length]; decide

/-- Each mode with bytes at the ends of its ranges, and an empty segment that just fits. -/
theorem witness_BwSegAppendsTheSegment :
    (versionOk (withSegment [0x30, 0x39]) ∧ segmentOk .numeric (withSegment [0x30, 0x39])) ∧
    segmentOk .alphanumeric (withSegment [0x5A, 0x3A]) ∧ segmentOk .byte (withSegment [0xFF]) ∧
    segmentOk .kanji (withSegment [0x9F, 0xFC, 0xE0, 0x40]) ∧
    (versionOk { State.reset with version := 40#6 }) ∧
    (let s := withBits 32754 8192#32
     s.arg0.toNat + s.arg1.toNat ≤ 8192 ∧ segmentOk .numeric s ∧
       s.bb.length + (4 + widthTable .numeric s.version.toNat + payloadLength .numeric s.arg1.toNat) ≤ 32768) := by
  refine ⟨⟨by decide +kernel, ?_⟩, ?_, trivial, ⟨by decide +kernel, ?_⟩, by decide +kernel, by decide +kernel, ?_, ?_⟩
  · unfold segmentOk; decide +kernel
  · unfold segmentOk; decide +kernel
  · decide +kernel
  · unfold segmentOk; exact fun k h => absurd h (Nat.not_lt_zero k)
  · simp only [withBits_length]; decide

theorem witness_SegmentBitLengths : (1 ≤ 1 ∧ 1 ≤ 40) ∧ (1 ≤ 40 ∧ 40 ≤ 40) ∧ ([0x81#8, 0x40#8].length % 2 = 0) := by
  decide +kernel

/-- Every clause of BW.SEG's errors: version and range, a bad digit, a bad character, a bad pair, an odd byte. -/
theorem witness_BwSegReportsTheFirstError_parameters :
    ¬ versionOk { State.reset with version := 0#6 } ∧ ¬ versionOk { State.reset with version := 41#6 } ∧
    versionOk (withArgs 8192#32 1#32) ∧
    8192 < (withArgs 8192#32 1#32).arg0.toNat + (withArgs 8192#32 1#32).arg1.toNat := by decide +kernel

theorem witness_BwSegReportsTheFirstError_digit :
    let s := withSegment [0x31, 0x2F]
    1 < s.arg1.toNat ∧ (∀ j < 1, 0x30 ≤ segByte s j ∧ segByte s j ≤ 0x39) ∧
      ¬ (0x30 ≤ segByte s 1 ∧ segByte s 1 ≤ 0x39) := by decide +kernel

theorem witness_BwSegReportsTheFirstError_character :
    let s := withSegment [0x61]
    0 < s.arg1.toNat ∧ segByte s 0 ∉ alphabet := by decide +kernel

theorem witness_BwSegReportsTheFirstError_pair :
    let s := withSegment [0x81, 0x40, 0x9F, 0xFD, 0x82]
    2 + 1 < s.arg1.toNat ∧ (∀ j < 2, j % 2 = 0 → kanjiOk (segPair s j)) ∧ ¬ kanjiOk (segPair s 2) := by decide +kernel

theorem witness_BwSegReportsTheFirstError_odd :
    let s := withSegment [0x81, 0x40, 0x82]
    s.arg1.toNat % 2 = 1 ∧ ∀ j, j + 1 < s.arg1.toNat → j % 2 = 0 → kanjiOk (segPair s j) := by
  refine ⟨by decide +kernel, fun j h h2 => ?_⟩
  have h3 : (withSegment [0x81, 0x40, 0x82]).arg1.toNat = 3 := by decide +kernel
  have : j = 0 := by omega
  subst this
  decide +kernel

theorem witness_BwSegReportsTheFirstError_full_buffer :
    segmentOk .byte (withBits 32757 0#32) ∧
    32768 < (withBits 32757 0#32).bb.length + 4 + widthTable .byte (withBits 32757 0#32).version.toNat
      + payloadLength .byte (withBits 32757 0#32).arg1.toNat :=
  ⟨trivial, by simp only [withBits_length]; decide⟩

/-- No block, too many, a bad second descriptor, and too many codewords. -/
theorem witness_BlockTableChecks :
    State.reset.blkcnt.toNat = 0 ∧ 128 < ({ State.reset with blkcnt := 129#8 }).blkcnt.toNat ∧
    (let s := withBlocks [0x00040002#32, 0x00040005#32] []
     1 ≤ s.blkcnt.toNat ∧ s.blkcnt.toNat ≤ 128 ∧ descriptorOk s 0 ∧ ¬ descriptorOk s 1) ∧
    (let s := withBlocks (List.replicate 17 0x00FA0064#32) []
     s.blkcnt.toNat ≤ 128 ∧ (∀ k < s.blkcnt.toNat, descriptorOk s k) ∧ 4096 < sumBelow (tc s) s.blkcnt.toNat ∧
       (16#8).toNat < s.blkcnt.toNat ∧ s.blkcnt.toNat ≤ (17#8).toNat) := by
  decide +kernel

/-- A table of two blocks: the data just fits, and is one bit too long; the last block and the first index past it. -/
theorem witness_BwFinPadsToCapacity :
    (let s := withBlocks [0x00040002#32, 0x00050003#32] [1, 2, 3, 4, 5]
     tableOk s ∧ s.bb.length = 8 * sumBelow (dc s) s.blkcnt.toNat) ∧
    (let s := { withBlocks [0x00010001#32] [] with bb := List.replicate 9 false }
     tableOk s ∧ 8 * sumBelow (dc s) s.blkcnt.toNat < s.bb.length) := by decide +kernel

theorem witness_RsBlockStoresItsCodewords :
    let s := withBlocks [0x00040002#32, 0x00050003#32] []
    tableOk s ∧ (1#8).toNat < s.blkcnt.toNat ∧ s.blkcnt.toNat ≤ (2#8).toNat := by decide +kernel

theorem witness_BlockWithItsCodewordsIsACodeword : (254 : Nat) < 255 ∧ (255 : Nat) ≤ 255 := by decide

theorem witness_RsAllStoresEveryBlock : tableOk (withBlocks [0x01000001#32] []) ∧
    0 < ec (withBlocks [0x01000001#32] []) 0 := by decide +kernel

theorem witness_CwIlvInterleaves : tableOk (withBlocks [0x00040002#32, 0x00030003#32] []) ∧
    0 < dc (withBlocks [0x00040002#32, 0x00030003#32] []) 1 := by decide +kernel

theorem witness_MxClrLatchesTheDimension :
    versionOk State.reset ∧ versionOk { State.reset with version := 40#6 } ∧
    ¬ versionOk { State.reset with version := 0#6 } ∧ ¬ versionOk { State.reset with version := 41#6 } := by
  decide +kernel

theorem witness_GridRequired : State.reset.modcnt = 0#32 := by decide +kernel

/-- The smallest and the largest grid: the hypothesis of MX.FND, MX.TIM, MX.FMT, MX.MAP. -/
theorem witness_MxFndPaintsThreeCorners : hasGrid (withGrid 21 []) ∧ hasGrid (withGrid 177 []) := by decide +kernel
theorem witness_MxTimFillsRowAndColumnSix : hasGrid (withGrid 21 []) ∧ hasGrid (withGrid 177 []) := by decide +kernel
theorem witness_MxFmtPaintsTheFormatCells : hasGrid (withGrid 21 []) ∧ hasGrid (withGrid 177 []) := by decide +kernel
theorem witness_MxMapIsTheSequentialLoop : hasGrid (withGrid 21 []) ∧ hasGrid (withGrid 177 []) := by decide +kernel

/-- Entries at both ends of the range; entries just outside; every centre assigned. -/
theorem witness_MxAlnPaintsAtUnassignedCentres :
    (let s := withGrid 21 [2, 18]
     hasGrid s ∧ centresOk s (dim s)) ∧
    (let s := { withGrid 21 [2] with grid := Grid.paintAll [] [(2, 2, true)] }
     hasGrid s ∧ centresOk s (dim s) ∧
       ∀ i < s.alncnt.toNat, ∀ j < s.alncnt.toNat, s.grid.get (aln s i) (aln s j) ≠ .unassigned) ∧
    (let s := withGrid 21 [2, 19]
     hasGrid s ∧ centreOk s (dim s) 0 ∧ ¬ centreOk s (dim s) 1) ∧
    ¬ centreOk (withGrid 21 [1]) 21 0 := by decide +kernel

theorem witness_MxVerPaintsTheVersionBlocks :
    (hasGrid (withGrid 41 []) ∧ (dim (withGrid 41 []) - 17) / 4 < 7) ∧
    (hasGrid (withGrid 45 []) ∧ 7 ≤ (dim (withGrid 45 []) - 17) / 4) := by decide +kernel

theorem witness_PathIsTheZigZag : (legalDimension 21 = true ∧ 21 ≠ 0) ∧ legalDimension 177 = true := by decide +kernel

/-- A legal VERSION and table; a bad VERSION; a bad entry. -/
theorem witness_MxBuildAssignsEveryModule :
    versionOk (withGrid 21 [2, 18]) ∧ centresOk (withGrid 21 [2, 18]) (4 * (withGrid 21 [2, 18]).version.toNat + 17) := by
  decide +kernel

theorem witness_buildErrors :
    ¬ versionOk { State.reset with version := 0#6 } ∧
    (let s := withGrid 21 [2, 19]
     versionOk s ∧ 1 < s.alncnt.toNat ∧ (∀ j < 1, centreOk s (4 * s.version.toNat + 17) j) ∧
       ¬ centreOk s (4 * s.version.toNat + 17) 1) := by decide +kernel

theorem witness_MxBuildIsItsSteps : versionOk State.reset ∧ centresOk State.reset (newDim State.reset) := by
  decide +kernel

/-- A grid with every cell assigned, and one whose last cell is the first unassigned. -/
theorem witness_MxPenScoresACompleteGrid :
    (let s := { withGrid 21 [] with grid := Grid.ofFn 21 (fun _ _ => .light) }
     hasGrid s ∧ ∀ r < dim s, ∀ c < dim s, s.grid.get r c ≠ .unassigned) ∧
    (let s := { withGrid 21 [] with grid := Grid.ofFn 21 (fun r c => if r = 20 ∧ c = 20 then .unassigned else .dark) }
     hasGrid s ∧ s.grid.get 20 20 = .unassigned ∧
       ∀ r < dim s, ∀ c < dim s, r < 20 ∨ (r = 20 ∧ c < 20) → s.grid.get r c ≠ .unassigned) := by decide +kernel

theorem witness_MxSelChoosesTheLeastPenalty : versionOk State.reset ∧ centresOk State.reset (newDim State.reset) := by
  decide +kernel

theorem witness_QBuildIsItsSteps :
    (let s := withBlocks [0x001A000D#32] [1, 2, 3]
     tableOk s ∧ s.bb.length ≤ 8 * sumBelow (dc s) s.blkcnt.toNat ∧ versionOk s ∧ centresOk s (newDim s)) ∧
    (let s := withBlocks [0x00020001#32] [1, 2]
     tableOk s ∧ 8 * sumBelow (dc s) s.blkcnt.toNat < s.bb.length) := by decide +kernel

/-- The last coefficient and the first word past it; the corner of a grid of dimension 21, of 177, and past it. -/
theorem witness_WindowsShowTheState :
    (let s := withPolys [1, 2] [0]
     1 < (s.poly 0).length ∧ (s.poly 0).length ≤ 2) ∧
    (20 < dim (withGrid 21 []) ∧ 176 < dim (withGrid 177 []) ∧ ¬ (20 < dim (withGrid 21 []) ∧ 21 < dim (withGrid 21 []))) := by
  decide +kernel

end Sys2Proof.Tests
end

section
/-!
PROOFS. What each command's pseudocode does when it completes, one lemma for each body: the checks that have passed and the
exact state it leaves. The three composed commands are given by the state their last part leaves.
-/

namespace Sys2Proof.Machine

variable {s u : State}

/-! ## Sequencing: a body that begins with a check goes on from the check's answer -/

theorem ok_eq_ok {a : State} : (Except.ok a : Result) = .ok u ↔ u = a := by
  rw [Except.ok.injEq, eq_comm]

/-- A check written out in a body: it completes exactly when the error's condition fails and the rest completes. -/
theorem ite_error_eq_ok {c : Prop} [Decidable c] {e : EngineError} {r : Result} :
    (if c then .error e else r) = .ok u ↔ ¬ c ∧ r = .ok u := by
  split
  next h => simp [h]
  next h => simp [h]

theorem checkStage_bind_eq_ok {n : Nat} {f : Unit → Result} :
    (s.checkStage n >>= f) = .ok u ↔ s.arg0.toNat + n ≤ 8192 ∧ f () = .ok u := by
  rw [bind_eq_ok, ← State.checkStage_eq_ok]
  exact ⟨fun ⟨_, h⟩ => h, fun h => ⟨(), h⟩⟩

theorem checkVersion_bind_eq_ok {f : Nat → Result} :
    (s.checkVersion >>= f) = .ok u ↔
      (1 ≤ s.version.toNat ∧ s.version.toNat ≤ 40) ∧ f s.version.toNat = .ok u := by
  simp [bind_eq_ok, State.checkVersion_eq_ok, and_assoc]

theorem checkGrid_bind_eq_ok {f : Nat → Result} :
    (s.checkGrid >>= f) = .ok u ↔ s.modcnt ≠ 0#32 ∧ f s.modcnt.toNat = .ok u := by
  simp [bind_eq_ok, State.checkGrid_eq_ok, and_assoc]

/-- check_blocks answers the table's own descriptors (R172). -/
theorem checkBlocks_bind_eq_ok {f : List Block → Result} :
    (s.checkBlocks >>= f) = .ok u ↔ s.checkBlocks = .ok s.blocks ∧ f s.blocks = .ok u := by
  rw [bind_eq_ok]
  constructor
  · rintro ⟨bs, hbs, hf⟩
    obtain ⟨rfl, -⟩ := s.checkBlocks_eq_ok.mp hbs
    exact ⟨hbs, hf⟩
  · exact fun ⟨hbs, hf⟩ => ⟨_, hbs, hf⟩

/-! ## Control and GF(256) -/

theorem nopBody_eq_ok : nopBody s = .ok u ↔ u = s := ok_eq_ok

theorem gfExpBody_eq_ok : gfExpBody s = .ok u ↔ u = s.setResult (gexp s.arg0Signed).toNat :=
  ok_eq_ok

theorem gfLogBody_eq_ok :
    gfLogBody s = .ok u ↔
      ¬ (s.arg0Signed < 1 ∨ s.arg0Signed > 255) ∧ u = s.setResult (glog (s.arg0.setWidth 8)) := by
  rw [gfLogBody, ite_error_eq_ok, ok_eq_ok]

theorem gfMulBody_eq_ok :
    gfMulBody s = .ok u ↔
      ¬ (s.arg0Signed < 0 ∨ s.arg0Signed > 255) ∧ ¬ (s.arg1Signed < 0 ∨ s.arg1Signed > 255) ∧
        u = s.setResult (gmul (s.arg0.setWidth 8) (s.arg1.setWidth 8)).toNat := by
  rw [gfMulBody, ite_error_eq_ok, ite_error_eq_ok, ok_eq_ok]

/-! ## Polynomials -/

section
variable {d a b : PReg}

theorem pClrBody_eq_ok : pClrBody d s = .ok u ↔ u = s.setPoly d [0#8] := ok_eq_ok

theorem pLoadBody_eq_ok {len : BitVec 9} :
    pLoadBody d len s = .ok u ↔
      s.arg0.toNat + len.toNat ≤ 8192 ∧ (norm (s.stage.readBytes s.arg0.toNat len.toNat)).length ≤ 256 ∧
        u = s.setPoly d (norm (s.stage.readBytes s.arg0.toNat len.toNat)) := by
  rw [pLoadBody, checkStage_bind_eq_ok, State.writePoly_eq_ok, State.arg0Unsigned]

theorem pStoreBody_eq_ok :
    pStoreBody a s = .ok u ↔
      s.arg0.toNat + (s.poly a).length ≤ 8192 ∧
        u = ({ s with stage := s.stage.writeBytes s.arg0.toNat (s.poly a) }).setResult (s.poly a).length := by
  rw [pStoreBody, checkStage_bind_eq_ok, ok_eq_ok, State.arg0Unsigned]

theorem pShlBody_eq_ok {n : BitVec 8} :
    pShlBody d a n s = .ok u ↔
      (shiftLeft (s.poly a) n.toNat).length ≤ 256 ∧ u = s.setPoly d (shiftLeft (s.poly a) n.toNat) :=
  State.writePoly_eq_ok s

theorem pMulBody_eq_ok :
    pMulBody d a b s = .ok u ↔
      (pmul (s.poly a) (s.poly b)).length ≤ 256 ∧ u = s.setPoly d (pmul (s.poly a) (s.poly b)) :=
  State.writePoly_eq_ok s

theorem pModBody_eq_ok :
    pModBody d a b s = .ok u ↔ s.poly b ≠ [0#8] ∧ u = s.setPoly d (pmod (s.poly a) (s.poly b)) := by
  rw [pModBody, ite_error_eq_ok, ok_eq_ok]

theorem pGenBody_eq_ok {n : BitVec 8} : pGenBody d n s = .ok u ↔ u = s.setPoly d (pgen n.toNat) := ok_eq_ok

end

/-! ## The bit buffer -/

theorem bwRstBody_eq_ok : bwRstBody s = .ok u ↔ u = { s with bb := [], bitlen := 0#32 } :=
  ok_eq_ok

/-- BW.SEG completes with one append, after R163's checks. -/
theorem bwSegBody_eq_ok {mode : SegMode} :
    bwSegBody mode s = .ok u ↔
      (1 ≤ s.version.toNat ∧ s.version.toNat ≤ 40) ∧ s.arg0.toNat + s.arg1.toNat ≤ 8192 ∧
        segmentError mode s.arg0.toNat (s.stage.readBytes s.arg0.toNat s.arg1.toNat) = none ∧
        s.append (bitsOfFields (segmentFields mode s.version.toNat
          (s.stage.readBytes s.arg0.toNat s.arg1.toNat))) = .ok u := by
  rw [bwSegBody, checkVersion_bind_eq_ok, checkStage_bind_eq_ok, State.arg0Unsigned, State.arg1Unsigned]
  dsimp only
  cases segmentError mode s.arg0.toNat (s.stage.readBytes s.arg0.toNat s.arg1.toNat) with
  | none => simp
  | some e => simp

/-! ## The block table: BW.FIN, RS.ALL, CW.ILV -/

theorem bwFinBody_eq_ok :
    bwFinBody s = .ok u ↔
      s.checkBlocks = .ok s.blocks ∧ s.bb.length ≤ totalDataBits s.blocks ∧
        u = { s with
          bb := padded s.bb (totalDataBits s.blocks),
          bitlen := Word.ofNat (padded s.bb (totalDataBits s.blocks)).length } := by
  rw [bwFinBody, checkBlocks_bind_eq_ok, ite_error_eq_ok, ok_eq_ok, not_lt]

/-- Storing blocks' correction codewords writes ECC alone. -/
theorem foldl_storeBlockEcc_frame (bs : List Block) (ks : List Nat) (s : State) :
    ks.foldl (fun t k => t.storeBlockEcc bs k) s
      = { s with ecc := (ks.foldl (fun t k => t.storeBlockEcc bs k) s).ecc } := by
  induction ks generalizing s with
  | nil => rfl
  | cons k ks ih => exact ih (s.storeBlockEcc bs k)

theorem rsAllBody_eq_ok :
    rsAllBody s = .ok u ↔
      s.checkBlocks = .ok s.blocks ∧
        u = ({ s with
          ecc := ((List.range s.blocks.length).foldl (fun (t : State) k => t.storeBlockEcc s.blocks k) s).ecc }).setResult
            (checkCodewords s.blocks) := by
  rw [rsAllBody, checkBlocks_bind_eq_ok, ok_eq_ok, foldl_storeBlockEcc_frame]

theorem cwIlvBody_eq_ok :
    cwIlvBody s = .ok u ↔
      s.checkBlocks = .ok s.blocks ∧
        u = { s with
          cw := Memory.ofBytes (s.codewordStream s.blocks),
          cwlen := Word.ofNat (s.codewordStream s.blocks).length } := by
  rw [cwIlvBody, checkBlocks_bind_eq_ok, ok_eq_ok]

/-! ## The matrix -/

theorem mxClrBody_eq_ok :
    mxClrBody s = .ok u ↔
      (1 ≤ s.version.toNat ∧ s.version.toNat ≤ 40) ∧
        u = { s with modcnt := Word.ofNat (4 * s.version.toNat + 17), grid := [] } := by
  rw [mxClrBody, checkVersion_bind_eq_ok, ok_eq_ok]

theorem mxFndBody_eq_ok :
    mxFndBody s = .ok u ↔
      s.modcnt ≠ 0#32 ∧ u = { s with grid := s.grid.paintAll (finderCells s.modcnt.toNat) } := by
  rw [mxFndBody, checkGrid_bind_eq_ok, ok_eq_ok]

theorem mxAlnBody_eq_ok :
    mxAlnBody s = .ok u ↔
      s.modcnt ≠ 0#32 ∧ badCentre s.modcnt.toNat s.centres = none ∧
        u = { s with grid := (pairs s.centres s.centres).foldl Grid.paintAlignment s.grid } := by
  rw [mxAlnBody, checkGrid_bind_eq_ok]
  cases badCentre s.modcnt.toNat s.centres with
  | none => simp only [ok_eq_ok, true_and]
  | some i => simp

theorem mxTimBody_eq_ok :
    mxTimBody s = .ok u ↔
      s.modcnt ≠ 0#32 ∧ u = { s with grid := s.grid.fillAll (timingCells s.modcnt.toNat) } := by
  rw [mxTimBody, checkGrid_bind_eq_ok, ok_eq_ok]

theorem mxFmtBody_eq_ok {m : MaskId} {trial : Bool} :
    mxFmtBody m trial s = .ok u ↔
      s.modcnt ≠ 0#32 ∧
        u = { s with grid := s.grid.paintAll (formatCells s.modcnt.toNat (formatBits s.eclevel m) trial) } := by
  rw [mxFmtBody, checkGrid_bind_eq_ok, ok_eq_ok]

theorem mxVerBody_eq_ok {trial : Bool} :
    mxVerBody trial s = .ok u ↔
      s.modcnt ≠ 0#32 ∧
        u = { s with
          grid := if latchedVersion s.modcnt.toNat < 7 then s.grid
            else s.grid.paintAll
              (versionCells s.modcnt.toNat (versionBits (latchedVersion s.modcnt.toNat)) trial) } := by
  rw [mxVerBody, checkGrid_bind_eq_ok]
  by_cases h : latchedVersion s.modcnt.toNat < 7
  · simp only [h, if_true, ok_eq_ok]
  · simp only [h, if_false, ok_eq_ok]

theorem mxMapBody_eq_ok {m : MaskId} :
    mxMapBody m s = .ok u ↔
      s.modcnt ≠ 0#32 ∧
        u = ({ s with grid := s.grid.paintAll (s.mapCells m s.modcnt.toNat) }).setResult
          (dataCells s.modcnt.toNat s.grid).length := by
  rw [mxMapBody, checkGrid_bind_eq_ok, ok_eq_ok]

theorem mxPenBody_eq_ok :
    mxPenBody s = .ok u ↔
      s.modcnt ≠ 0#32 ∧ s.grid.firstUnassigned s.modcnt.toNat = none ∧
        u = s.setScore (s.grid.score s.modcnt.toNat) := by
  rw [mxPenBody, checkGrid_bind_eq_ok]
  cases s.grid.firstUnassigned s.modcnt.toNat with
  | none => simp only [ok_eq_ok, true_and]
  | some rc => simp

/-! ## The composed commands -/

/-- A build that completes writes MODCNT, GRID and RESULT (R202). -/
theorem mxBuildBody_frame {m : MaskId} {trial : Bool} (h : mxBuildBody m trial s = .ok u) :
    u = { s with modcnt := u.modcnt, grid := u.grid, result := u.result } := by
  simp only [mxBuildBody, bind_eq_ok, mxClrBody_eq_ok, mxFndBody_eq_ok, mxAlnBody_eq_ok, mxTimBody_eq_ok,
    mxFmtBody_eq_ok, mxVerBody_eq_ok, mxMapBody_eq_ok] at h
  obtain ⟨_, ⟨-, rfl⟩, _, ⟨-, rfl⟩, _, ⟨-, -, rfl⟩, _, ⟨-, rfl⟩, _, ⟨-, rfl⟩, _, ⟨-, rfl⟩, -, rfl⟩ := h
  rfl

/-- MX.SEL completes with a non-trial build, and then writes PENTAB, MASKSEL and the penalty registers (R215). -/
theorem mxSelBody_ok (h : mxSelBody s = .ok u) :
    ∃ (best : MaskId × Score) (totals : Vector Word 8) (t : State), mxBuildBody best.1 false s = .ok t ∧
      u = ({ t with pentab := totals, masksel := BitVec.ofFin (w := 3) best.1 }).setScore best.2 := by
  simp only [mxSelBody, bind_eq_ok, Except.ok.injEq] at h
  obtain ⟨_, -, _, -, _, -, _, -, _, -, _, -, _, -, _, -, t, ht, rfl⟩ := h
  exact ⟨_, _, t, ht, rfl⟩

/-- A selection that completes writes what its build writes, PENTAB, MASKSEL and the penalty registers. -/
theorem mxSelBody_frame (h : mxSelBody s = .ok u) :
    u = { s with
      modcnt := u.modcnt, grid := u.grid, result := u.result, pentab := u.pentab, masksel := u.masksel,
      penalty := u.penalty, penA := u.penA, penB := u.penB, penC := u.penC, penD := u.penD, darkcnt := u.darkcnt } := by
  obtain ⟨best, totals, t, ht, rfl⟩ := mxSelBody_ok h
  rw [mxBuildBody_frame ht]
  rfl

/-- Q.BUILD completes when its four parts do, each from the state the part before leaves (R227). -/
theorem qBuildBody_ok (h : qBuildBody s = .ok u) :
    ∃ s1 s2 s3, bwFinBody s = .ok s1 ∧ rsAllBody s1 = .ok s2 ∧ cwIlvBody s2 = .ok s3 ∧ mxSelBody s3 = .ok u := by
  simp only [qBuildBody, bind_eq_ok] at h
  obtain ⟨s1, h1, s2, h2, s3, h3, h4⟩ := h
  exact ⟨s1, s2, s3, h1, h2, h3, h4⟩

end Sys2Proof.Machine
end

section
/-!
PROOFS. The frame of every command (R13): `State.takeWrites` says what the Writes lists allow, `exec_cases` how every
command ends, and `exec_frame` joins them.
-/

namespace Sys2Proof.Machine

open Sys2Proof.Claims

/-! ## How every command ends -/

/-- The pseudocode of each command. -/
def commandBody (i : Instr) : State → Result :=
  match i with
  | .nop => nopBody
  | .gfExp => gfExpBody
  | .gfLog => gfLogBody
  | .gfMul => gfMulBody
  | .pClr d => pClrBody d
  | .pLoad d len => pLoadBody d len
  | .pStore a => pStoreBody a
  | .pShl d a n => pShlBody d a n
  | .pMul d a b => pMulBody d a b
  | .pMod d a b => pModBody d a b
  | .pGen d n => pGenBody d n
  | .rsBlock k => rsBlockBody k
  | .rsAll => rsAllBody
  | .cwIlv => cwIlvBody
  | .bwRst => bwRstBody
  | .bwPut n => bwPutBody n
  | .bwBit b => bwBitBody b
  | .bwSeg mode => bwSegBody mode
  | .bwFin => bwFinBody
  | .mxClr => mxClrBody
  | .mxFnd => mxFndBody
  | .mxAln => mxAlnBody
  | .mxTim => mxTimBody
  | .mxFmt m trial => mxFmtBody m trial
  | .mxVer trial => mxVerBody trial
  | .mxMap m => mxMapBody m
  | .mxBuild m trial => mxBuildBody m trial
  | .mxPen => mxPenBody
  | .mxSel => mxSelBody
  | .qBuild => qBuildBody

/-- The state an error end starts from: the state before the command, or for a composed command that state with the
locations of its Writes list drawn freely (R233, log 4). -/
def errorBase (i : Instr) (s : State) : State :=
  match i with
  | .mxBuild _ _ => s.drawBuild
  | .mxSel => s.drawSelect
  | .qBuild => s.drawSymbol
  | _ => s

theorem finish_eq_finishComposed (s : State) (r : Result) : s.finish r = State.finishComposed s r := by
  cases r <;> rfl

/-- Every command runs its pseudocode and ends its step normally or with an error (R231). -/
theorem exec_eq (i : Instr) (s : State) : exec i s = State.finishComposed (errorBase i s) (commandBody i s) := by
  cases i
  case mxBuild | mxSel | qBuild => rfl
  all_goals
    rw [← finish_eq_finishComposed]
    rfl

theorem exec_cases {i : Instr} {s t : State} (h : exec i s = .next t) :
    (∃ u, commandBody i s = .ok u ∧ t = u.normalEnd) ∨
      (∃ e, commandBody i s = .error e ∧ t = (errorBase i s).errorEnd e) :=
  State.finishComposed_cases (exec_eq i s ▸ h)

/-! ## What the Writes lists allow -/

/-- `s` with every location of command i's Writes list taken from `v`, and the draws of a composed command counted. -/
def State.takeWrites (s : State) (i : Instr) (v : State) : State :=
  { s with
    result := if writesResult i then v.result else s.result,
    p := (destination i).elim s.p (fun d => s.p.set d.val (v.poly d)),
    stage := if writesStage i then v.stage else s.stage,
    bb := if writesBuffer i then v.bb else s.bb, bitlen := if writesBuffer i then v.bitlen else s.bitlen,
    ecc := if writesEcc i then v.ecc else s.ecc,
    cw := if writesCw i then v.cw else s.cw, cwlen := if writesCw i then v.cwlen else s.cwlen,
    modcnt := if writesModcnt i then v.modcnt else s.modcnt,
    grid := if writesGrid i then v.grid else s.grid,
    penalty := if writesPenalty i then v.penalty else s.penalty,
    penA := if writesPenalty i then v.penA else s.penA, penB := if writesPenalty i then v.penB else s.penB,
    penC := if writesPenalty i then v.penC else s.penC, penD := if writesPenalty i then v.penD else s.penD,
    darkcnt := if writesPenalty i then v.darkcnt else s.darkcnt,
    pentab := if writesSelection i then v.pentab else s.pentab,
    masksel := if writesSelection i then v.masksel else s.masksel,
    freeCount := if composed i then v.freeCount else s.freeCount }

theorem ite_else_ite_same {α : Type} {c : Prop} [Decidable c] (a b d : α) :
    (if c then a else if c then b else d) = if c then a else d := by
  split
  · rfl
  · rfl

/-- Of two overlays with one Writes list the later one counts. -/
theorem State.takeWrites_takeWrites (i : Instr) (s t v : State) :
    (s.takeWrites i t).takeWrites i v = s.takeWrites i v := by
  unfold State.takeWrites
  cases h : destination i with
  | none => simp [ite_else_ite_same]
  | some d => simp [ite_else_ite_same]

section
variable {i : Instr} {s v : State}

theorem State.takeWrites_result (h : writesResult i = false) : (s.takeWrites i v).result = s.result := by
  simp [State.takeWrites, h]

theorem State.takeWrites_poly {j : PReg} (h : destination i ≠ some j) : (s.takeWrites i v).poly j = s.poly j := by
  unfold State.takeWrites State.poly
  cases hd : destination i with
  | none => rfl
  | some d =>
    have hne : d.val ≠ j.val := fun e => h (by rw [hd, Fin.ext e])
    exact Vector.getElem_set_ne d.isLt j.isLt hne

theorem State.takeWrites_stage (h : writesStage i = false) : (s.takeWrites i v).stage = s.stage := by
  simp [State.takeWrites, h]

theorem State.takeWrites_buffer (h : writesBuffer i = false) :
    (s.takeWrites i v).bb = s.bb ∧ (s.takeWrites i v).bitlen = s.bitlen := by
  simp [State.takeWrites, h]

theorem State.takeWrites_ecc (h : writesEcc i = false) : (s.takeWrites i v).ecc = s.ecc := by
  simp [State.takeWrites, h]

theorem State.takeWrites_cw (h : writesCw i = false) :
    (s.takeWrites i v).cw = s.cw ∧ (s.takeWrites i v).cwlen = s.cwlen := by
  simp [State.takeWrites, h]

theorem State.takeWrites_modcnt (h : writesModcnt i = false) : (s.takeWrites i v).modcnt = s.modcnt := by
  simp [State.takeWrites, h]

theorem State.takeWrites_grid (h : writesGrid i = false) : (s.takeWrites i v).grid = s.grid := by
  simp [State.takeWrites, h]

theorem State.takeWrites_penalty (h : writesPenalty i = false) :
    (s.takeWrites i v).penalty = s.penalty ∧ (s.takeWrites i v).penA = s.penA ∧ (s.takeWrites i v).penB = s.penB ∧
      (s.takeWrites i v).penC = s.penC ∧ (s.takeWrites i v).penD = s.penD ∧
      (s.takeWrites i v).darkcnt = s.darkcnt := by
  simp [State.takeWrites, h]

theorem State.takeWrites_selection (h : writesSelection i = false) :
    (s.takeWrites i v).pentab = s.pentab ∧ (s.takeWrites i v).masksel = s.masksel := by
  simp [State.takeWrites, h]

theorem State.takeWrites_freeCount (h : composed i = false) : (s.takeWrites i v).freeCount = s.freeCount := by
  simp [State.takeWrites, h]

end

/-! ## Every command keeps to its Writes list -/

/-- `u` differs from `s` only in locations of command i's Writes list. -/
def WritesOnly (i : Instr) (s u : State) : Prop := u = s.takeWrites i u

section
variable {i : Instr} {s u : State}

theorem WritesOnly.trans {t : State} (h : WritesOnly i s t) (h' : WritesOnly i t u) : WritesOnly i s u := by
  unfold WritesOnly at h h'
  rw [h, State.takeWrites_takeWrites] at h'
  exact h'

theorem WritesOnly.refl (i : Instr) (s : State) : WritesOnly i s s := by
  unfold WritesOnly State.takeWrites
  cases h : destination i with
  | none => simp
  | some d => simp [State.poly]

theorem WritesOnly.setPoly {d : PReg} (h : destination i = some d) (q : Poly) : WritesOnly i s (s.setPoly d q) := by
  simp [WritesOnly, State.takeWrites, State.setPoly, State.poly, h]

/-- An append keeps to the Writes list of a command that writes BB and BITLEN. -/
theorem WritesOnly.append {bits : List Bool} (hi : writesBuffer i = true) (hd : destination i = none)
    (h : s.append bits = .ok u) : WritesOnly i s u := by
  obtain ⟨-, rfl⟩ := s.append_eq_ok.mp h
  simp [WritesOnly, State.takeWrites, hi, hd]

theorem qBuildBody_writesOnly (h : qBuildBody s = .ok u) : WritesOnly .qBuild s u := by
  obtain ⟨s1, s2, s3, h1, h2, h3, h4⟩ := qBuildBody_ok h
  have fin : WritesOnly .qBuild s s1 := by obtain ⟨-, -, rfl⟩ := bwFinBody_eq_ok.mp h1; rfl
  have all : WritesOnly .qBuild s1 s2 := by obtain ⟨-, rfl⟩ := rsAllBody_eq_ok.mp h2; rfl
  have ilv : WritesOnly .qBuild s2 s3 := by obtain ⟨-, rfl⟩ := cwIlvBody_eq_ok.mp h3; rfl
  have sel : WritesOnly .qBuild s3 u := by rw [mxSelBody_frame h4]; rfl
  exact ((fin.trans all).trans ilv).trans sel

/-- A command that completes has written only what its Writes list names. -/
theorem commandBody_writesOnly (h : commandBody i s = .ok u) : WritesOnly i s u := by
  cases i with
  | nop => obtain rfl := nopBody_eq_ok.mp h; rfl
  | gfExp => obtain rfl := gfExpBody_eq_ok.mp h; rfl
  | gfLog => obtain ⟨-, rfl⟩ := gfLogBody_eq_ok.mp h; rfl
  | gfMul => obtain ⟨-, -, rfl⟩ := gfMulBody_eq_ok.mp h; rfl
  | pClr d => obtain rfl := pClrBody_eq_ok.mp h; exact .setPoly rfl _
  | pLoad d len => obtain ⟨-, -, rfl⟩ := pLoadBody_eq_ok.mp h; exact .setPoly rfl _
  | pStore a => obtain ⟨-, rfl⟩ := pStoreBody_eq_ok.mp h; rfl
  | pShl d a n => obtain ⟨-, rfl⟩ := pShlBody_eq_ok.mp h; exact .setPoly rfl _
  | pMul d a b => obtain ⟨-, rfl⟩ := pMulBody_eq_ok.mp h; exact .setPoly rfl _
  | pMod d a b => obtain ⟨-, rfl⟩ := pModBody_eq_ok.mp h; exact .setPoly rfl _
  | pGen d n => obtain rfl := pGenBody_eq_ok.mp h; exact .setPoly rfl _
  | rsBlock k => obtain ⟨-, -, rfl⟩ := (rsBlockBody_eq_ok s).mp h; rfl
  | rsAll => obtain ⟨-, rfl⟩ := rsAllBody_eq_ok.mp h; rfl
  | cwIlv => obtain ⟨-, rfl⟩ := cwIlvBody_eq_ok.mp h; rfl
  | bwRst => obtain rfl := bwRstBody_eq_ok.mp h; rfl
  | bwPut n => exact .append rfl rfl h
  | bwBit b => exact .append rfl rfl h
  | bwSeg mode => obtain ⟨-, -, -, h⟩ := bwSegBody_eq_ok.mp h; exact .append rfl rfl h
  | bwFin => obtain ⟨-, -, rfl⟩ := bwFinBody_eq_ok.mp h; rfl
  | mxClr => obtain ⟨-, rfl⟩ := mxClrBody_eq_ok.mp h; rfl
  | mxFnd => obtain ⟨-, rfl⟩ := mxFndBody_eq_ok.mp h; rfl
  | mxAln => obtain ⟨-, -, rfl⟩ := mxAlnBody_eq_ok.mp h; rfl
  | mxTim => obtain ⟨-, rfl⟩ := mxTimBody_eq_ok.mp h; rfl
  | mxFmt m trial => obtain ⟨-, rfl⟩ := mxFmtBody_eq_ok.mp h; rfl
  | mxVer trial => obtain ⟨-, rfl⟩ := mxVerBody_eq_ok.mp h; rfl
  | mxMap m => obtain ⟨-, rfl⟩ := mxMapBody_eq_ok.mp h; rfl
  | mxBuild m trial => rw [mxBuildBody_frame h]; rfl
  | mxPen => obtain ⟨-, -, rfl⟩ := mxPenBody_eq_ok.mp h; rfl
  | mxSel => rw [mxSelBody_frame h]; rfl
  | qBuild => exact qBuildBody_writesOnly h

/-- The draws after a composed command's error stay inside its Writes list (R233); another command's error draws nothing. -/
theorem errorBase_writesOnly (i : Instr) (s : State) : WritesOnly i s (errorBase i s) := by
  cases i
  case mxBuild | mxSel | qBuild =>
    simp [WritesOnly, State.takeWrites, errorBase, State.drawBuild, State.drawSelect, State.drawSymbol, writesResult,
      destination, writesStage, writesBuffer, writesEcc, writesCw, writesModcnt, writesGrid, writesPenalty,
      writesSelection, composed]
  all_goals exact WritesOnly.refl _ s

/-- `w` with what an end of step writes taken from `t` (R231, R233). -/
def State.withEnd (w t : State) : State :=
  { w with
    status := t.status, cmdcnt := t.cmdcnt, errinfo0 := t.errinfo0, errinfo1 := t.errinfo1, errcmd := t.errcmd,
    delay := t.delay }

/-- THE FRAME OF A STEP: a command's step changes only the locations of its Writes list and what an end of step writes,
and leaves DROP (R13, R231, R233). -/
theorem exec_frame {t : State} (h : exec i s = .next t) :
    t = (s.takeWrites i t).withEnd t ∧ t.status.drop = s.status.drop := by
  obtain ⟨u, hu, rfl⟩ | ⟨e, -, rfl⟩ := exec_cases h
  · have hw : u = s.takeWrites i u := commandBody_writesOnly hu
    exact ⟨congrArg (·.withEnd u.normalEnd) hw, congrArg (·.status.drop) hw⟩
  · have hw : errorBase i s = s.takeWrites i (errorBase i s) := errorBase_writesOnly i s
    exact ⟨congrArg (·.withEnd ((errorBase i s).errorEnd e)) hw, congrArg (·.status.drop) hw⟩

end

/-- Settles O16: by the frame of a step, every field after a command is the Writes list's or the field before it. -/
theorem commandsChangeOnlyTheirWritesLists : Obligations.CommandsChangeOnlyTheirWritesLists := by
  unfold Obligations.CommandsChangeOnlyTheirWritesLists
  intro i s t h
  obtain ⟨ht, hdrop⟩ := exec_frame h
  rw [ht]
  exact ⟨⟨rfl, rfl, rfl, rfl, rfl, hdrop, rfl, rfl, rfl, rfl, rfl, rfl, rfl, rfl, rfl⟩, State.takeWrites_result,
    fun _ => State.takeWrites_poly, State.takeWrites_stage, State.takeWrites_buffer, State.takeWrites_ecc,
    State.takeWrites_cw, State.takeWrites_modcnt, State.takeWrites_grid, State.takeWrites_penalty,
    State.takeWrites_selection, State.takeWrites_freeCount⟩

end Sys2Proof.Machine
end

section
/-!
PROOFS. Ranges of the memories and of the grid: every operation on them stays inside the range its arguments name, and the
cells each layout command writes lie in the N x N grid.
-/

namespace Sys2Proof.Machine

/-! ## Byte memories -/

section
variable {m : Memory} {n : Nat}

theorem Memory.within_iff : m.within n = true ↔ ∀ e ∈ m, e.1 < n := by
  simp [Memory.within]

theorem Memory.within_write {a : Nat} {v : Byte} (h : m.within n = true) (ha : a < n) :
    (m.write a v).within n = true := by
  rw [Memory.within_iff] at h ⊢
  intro e he
  obtain rfl | he := Store.mem_write _ _ _ _ e he
  · exact ha
  · exact h e he

/-- A store of several bytes whose range ends by `n` lists no byte past it. -/
theorem Memory.within_writeBytes {off : Nat} {bytes : List Byte} (h : m.within n = true)
    (hoff : off + bytes.length ≤ n) : (m.writeBytes off bytes).within n = true := by
  induction bytes generalizing m off with
  | nil => exact h
  | cons b rest ih =>
    rw [List.length_cons] at hoff
    exact ih (Memory.within_write h (by omega)) (by omega)

theorem Memory.within_ofFn {k : Nat} (f : Nat → Byte) (hk : k ≤ n) : Memory.within n (Store.ofFn 0#8 k f) = true := by
  rw [Memory.within_iff]
  intro e he
  obtain ⟨a, ha, rfl⟩ := List.mem_map.mp (List.mem_filter.mp he).1
  exact (List.mem_range.mp ha).trans_le hk

theorem Memory.within_ofBytes {bytes : List Byte} (h : bytes.length ≤ n) : (Memory.ofBytes bytes).within n = true :=
  Memory.within_ofFn _ h

end

/-! ## The grid -/

section
variable {g : Grid} {n : Nat}

theorem Grid.within_iff : g.within n = true ↔ ∀ row ∈ g, row.1 < n ∧ ∀ cell ∈ row.2, cell.1 < n := by
  simp [Grid.within]

theorem Grid.within_mono {k : Nat} (h : g.within n = true) (hk : n ≤ k) : g.within k = true := by
  rw [Grid.within_iff] at h ⊢
  intro row hrow
  obtain ⟨hr, hc⟩ := h row hrow
  exact ⟨hr.trans_le hk, fun cell hcell => (hc cell hcell).trans_le hk⟩

/-- A read answers the default or the value of an entry. -/
theorem Store.read_eq_or_mem {α : Type} (d : α) (m : Store α) (a : Nat) :
    Store.read d m a = d ∨ (a, Store.read d m a) ∈ m := by
  induction m with
  | nil => exact .inl rfl
  | cons e rest ih =>
    obtain ⟨k, x⟩ := e
    rw [Store.read]
    split
    next h => exact .inr (by simp [h])
    next h => exact ih.imp_right (List.mem_cons_of_mem _)

theorem Grid.within_set {r c : Nat} {x : Module} (h : g.within n = true) (hr : r < n) (hc : c < n) :
    (g.set r c x).within n = true := by
  rw [Grid.within_iff] at h ⊢
  intro row hrow
  obtain rfl | hrow := Store.mem_write _ _ _ _ row hrow
  · refine ⟨hr, fun cell hcell => ?_⟩
    obtain rfl | hcell := Store.mem_write _ _ _ _ cell hcell
    · exact hc
    · obtain hnil | hmem := Store.read_eq_or_mem [] g r
      · rw [hnil] at hcell
        cases hcell
      · exact (h _ hmem).2 cell hcell
  · exact h row hrow

theorem Grid.within_fill {r c : Nat} {dark : Bool} (h : g.within n = true) (hr : r < n) (hc : c < n) :
    (g.fill r c dark).within n = true := by
  unfold Grid.fill
  split
  · exact Grid.within_set h hr hc
  · exact h

/-- Every cell of a list of writes lies in the n x n grid. -/
def CellsWithin (n : Nat) (cells : List CellWrite) : Prop := ∀ x ∈ cells, x.1 < n ∧ x.2.1 < n

theorem Grid.within_paintAll {cells : List CellWrite} (h : g.within n = true) (hcells : CellsWithin n cells) :
    (g.paintAll cells).within n = true := by
  unfold Grid.paintAll
  induction cells generalizing g with
  | nil => exact h
  | cons x rest ih =>
    obtain ⟨hx, hrest⟩ := List.forall_mem_cons.mp hcells
    exact ih (Grid.within_set h hx.1 hx.2) hrest

theorem Grid.within_fillAll {cells : List CellWrite} (h : g.within n = true) (hcells : CellsWithin n cells) :
    (g.fillAll cells).within n = true := by
  unfold Grid.fillAll
  induction cells generalizing g with
  | nil => exact h
  | cons x rest ih =>
    obtain ⟨hx, hrest⟩ := List.forall_mem_cons.mp hcells
    exact ih (Grid.within_fill h hx.1 hx.2) hrest

theorem Grid.within_ofFn {k : Nat} (f : Nat → Nat → Module) (hk : k ≤ n) : (Grid.ofFn k f).within n = true := by
  rw [Grid.within_iff]
  intro row hrow
  obtain ⟨r, hr, rfl⟩ := List.mem_map.mp (List.mem_filter.mp hrow).1
  refine ⟨(List.mem_range.mp hr).trans_le hk, fun cell hcell => ?_⟩
  obtain ⟨c, hc, rfl⟩ := List.mem_map.mp (List.mem_filter.mp hcell).1
  exact (List.mem_range.mp hc).trans_le hk

end

/-! ## The cells of the layout commands -/

theorem mem_offsets {lo x : Int} {k : Nat} : x ∈ offsets lo k ↔ lo ≤ x ∧ x < lo + k := by
  simp only [offsets, List.mem_map, List.bind_eq_flatMap, List.pure_def, List.mem_flatMap, List.mem_range,
    List.mem_singleton]
  constructor
  · rintro ⟨_, ⟨i, hi, rfl⟩, rfl⟩
    omega
  · rintro ⟨h1, h2⟩
    exact ⟨x - lo, ⟨(x - lo).toNat, by omega, by omega⟩, by omega⟩

theorem mem_pairs {α β : Type} {xs : List α} {ys : List β} {p : α × β} :
    p ∈ pairs xs ys ↔ p.1 ∈ xs ∧ p.2 ∈ ys := by
  simp only [pairs, List.mem_flatMap, List.mem_map]
  constructor
  · rintro ⟨x, hx, y, hy, rfl⟩
    exact ⟨hx, hy⟩
  · rintro ⟨hx, hy⟩
    exact ⟨p.1, hx, p.2, hy, rfl⟩

section
variable {n : Nat}

/-- R190: "cells outside the grid are skipped". -/
theorem cellsWithin_finderCells : CellsWithin n (finderCells n) := by
  intro x hx
  simp only [finderCells, List.mem_flatMap, List.mem_filterMap, Option.ite_none_right_eq_some,
    Option.some.injEq] at hx
  obtain ⟨corner, -, offset, -, ⟨hr, hr', hc, hc'⟩, rfl⟩ := hx
  exact ⟨(Int.toNat_lt hr).mpr hr', (Int.toNat_lt hc).mpr hc'⟩

/-- The 5x5 square around a centre that R192 accepts lies in the grid. -/
theorem cellsWithin_alignCells {pr pc : Nat} (hr : pr + 3 ≤ n) (hc : pc + 3 ≤ n) : CellsWithin n (alignCells pr pc) := by
  intro x hx
  simp only [alignCells, List.mem_map] at hx
  obtain ⟨offset, hoff, rfl⟩ := hx
  obtain ⟨h1, h2⟩ := mem_pairs.mp hoff
  rw [mem_offsets] at h1 h2
  exact ⟨by dsimp only; omega, by dsimp only; omega⟩

theorem badCentre_eq_none {centres : List Nat} : badCentre n centres = none ↔ ∀ a ∈ centres, 2 ≤ a ∧ a + 3 ≤ n := by
  simp only [badCentre, List.findIdx?_eq_none_iff, Bool.not_eq_false', Bool.and_eq_true, decide_eq_true_eq,
    List.bind_eq_flatMap, List.pure_def, List.mem_flatMap, List.mem_singleton]
  constructor
  · intro h a ha
    have := h a ⟨a, ha, rfl⟩
    omega
  · rintro h _ ⟨a, ha, rfl⟩
    have := h a ha
    omega

/-- Painting alignment patterns at accepted centres keeps the canonical form and the range of the grid (R192). -/
theorem Grid.paintAlignments_ok {g : Grid} {centres : List (Nat × Nat)} (hwf : g.wf = true) (h : g.within n = true)
    (hcentres : ∀ x ∈ centres, x.1 + 3 ≤ n ∧ x.2 + 3 ≤ n) :
    (centres.foldl Grid.paintAlignment g).wf = true ∧ (centres.foldl Grid.paintAlignment g).within n = true := by
  induction centres generalizing g with
  | nil => exact ⟨hwf, h⟩
  | cons x rest ih =>
    obtain ⟨hx, hrest⟩ := List.forall_mem_cons.mp hcentres
    rw [List.foldl_cons]
    by_cases hfree : g.get x.1 x.2 ≠ .unassigned
    · rw [Grid.paintAlignment, if_pos hfree]
      exact ih hwf h hrest
    · rw [Grid.paintAlignment, if_neg hfree]
      exact ih (Grid.wf_paintAll _ _ hwf) (Grid.within_paintAll h (cellsWithin_alignCells hx.1 hx.2)) hrest

theorem cellsWithin_timingCells (hn : 21 ≤ n) : CellsWithin n (timingCells n) := by
  intro x hx
  simp only [timingCells, List.mem_flatMap, List.mem_range, List.mem_cons, List.not_mem_nil, or_false] at hx
  obtain ⟨k, hk, rfl | rfl⟩ := hx
  · exact ⟨hk, by dsimp only; omega⟩
  · exact ⟨by dsimp only; omega, hk⟩

theorem formatVertical_lt (hn : 21 ≤ n) {i : Nat} (hi : i < 15) :
    (formatVertical n i).1 < n ∧ (formatVertical n i).2 < n := by
  unfold formatVertical
  split_ifs <;> dsimp only <;> omega

theorem formatHorizontal_lt (hn : 21 ≤ n) {i : Nat} (hi : i < 15) :
    (formatHorizontal n i).1 < n ∧ (formatHorizontal n i).2 < n := by
  unfold formatHorizontal
  split_ifs <;> dsimp only <;> omega

theorem cellsWithin_formatCells (hn : 21 ≤ n) (w : Nat) (trial : Bool) : CellsWithin n (formatCells n w trial) := by
  intro x hx
  simp only [formatCells, List.mem_append, List.mem_flatMap, List.mem_range, List.mem_cons, List.not_mem_nil,
    or_false] at hx
  obtain ⟨i, hi, rfl | rfl⟩ | rfl := hx
  · exact formatVertical_lt hn hi
  · exact formatHorizontal_lt hn hi
  · exact ⟨by dsimp only; omega, by dsimp only; omega⟩

theorem cellsWithin_versionCells (hn : 21 ≤ n) (w : Nat) (trial : Bool) : CellsWithin n (versionCells n w trial) := by
  intro x hx
  simp only [versionCells, List.mem_flatMap, List.mem_range, List.mem_cons, List.not_mem_nil, or_false] at hx
  obtain ⟨i, hi, rfl | rfl⟩ := hx
  · exact ⟨by dsimp only; omega, by dsimp only; omega⟩
  · exact ⟨by dsimp only; omega, by dsimp only; omega⟩

theorem le_of_mem_pathColumns {fuel col c : Nat} (h : c ∈ pathColumns fuel col) : c ≤ col := by
  induction fuel generalizing col with
  | zero => cases h
  | succ fuel ih =>
    rw [pathColumns] at h
    split at h
    next => cases h
    next =>
      have hright : (if col = 6 then 5 else col) ≤ col := by split <;> omega
      obtain rfl | h := List.mem_cons.mp h
      · exact hright
      · exact (ih h).trans ((Nat.sub_le _ _).trans hright)

theorem mem_pathRows {p row : Nat} : row ∈ pathRows n p ↔ row < n := by
  unfold pathRows
  split <;> simp

/-- The placement path stays inside the grid (R200). -/
theorem mem_path_lt {rc : Nat × Nat} (h : rc ∈ path n) : rc.1 < n ∧ rc.2 < n := by
  simp only [path, List.mem_flatMap, List.mem_cons, List.not_mem_nil, or_false] at h
  obtain ⟨⟨col, p⟩, hcol, row, hrow, hrc⟩ := h
  have hr : row < n := mem_pathRows.mp hrow
  have hc : col ≤ n - 1 := le_of_mem_pathColumns (List.fst_mem_of_mem_zipIdx hcol)
  obtain rfl | rfl := hrc
  · exact ⟨hr, by dsimp only; omega⟩
  · exact ⟨hr, by dsimp only; omega⟩

theorem cellsWithin_mapCells (s : State) (m : MaskId) : CellsWithin n (s.mapCells m n) := by
  intro x hx
  obtain ⟨⟨rc, b⟩, hrc, rfl⟩ := List.mem_map.mp hx
  exact mem_path_lt (List.mem_filter.mp (List.fst_mem_of_mem_zipIdx hrc)).1

end

end Sys2Proof.Machine
end

section
/-!
PROOFS. The polynomial functions answer normalized polynomials (R136) of bounded length, and the Reed-Solomon remainder has
exactly the length its descriptor gives: each pass of the reduction cancels the leading coefficient.
-/

namespace Sys2Proof.Machine

/-! ## Normalized polynomials -/

theorem normalized_norm (c : List Byte) : normalized (norm c) = true := by
  fun_induction norm c with
  | case1 => rfl
  | case2 => rfl
  | case3 _ _ ih => exact ih
  | case4 c d rest h => exact decide_eq_true h

theorem polyOk_iff {q : Poly} : polyOk q = true ↔ normalized q = true ∧ q.length ≤ 256 := by
  simp [polyOk]

theorem ne_nil_of_normalized {q : Poly} (h : normalized q = true) : q ≠ [] := by
  rintro rfl
  cases h

theorem head_ne_zero_of_normalized {c : Byte} {rest : List Byte} (h : normalized (c :: rest) = true)
    (hne : c :: rest ≠ [0#8]) : c ≠ 0#8 := by
  cases rest with
  | nil => simpa using hne
  | cons d rest => simpa [normalized] using h

theorem normalized_shiftLeft {p : Poly} (n : Nat) (h : normalized p = true) : normalized (shiftLeft p n) = true := by
  unfold shiftLeft
  split
  next => rfl
  next hne =>
    obtain ⟨c, rest, rfl⟩ := List.exists_cons_of_ne_nil (ne_nil_of_normalized h)
    rw [List.cons_append, ← norm_of_head c _ (head_ne_zero_of_normalized h hne)]
    exact normalized_norm _

/-! ## The reduction (R139) -/

section
variable {r b : Poly}

theorem normalized_pmodLoop (fuel : Nat) (h : normalized r = true) : normalized (pmodLoop fuel r b) = true := by
  induction fuel generalizing r with
  | zero => exact h
  | succ fuel ih =>
    rw [pmodLoop]
    split
    next => exact ih (normalized_norm _)
    next => exact h

theorem length_pmodLoop_le (fuel : Nat) (h : normalized r = true) : (pmodLoop fuel r b).length ≤ r.length := by
  induction fuel generalizing r with
  | zero => exact le_rfl
  | succ fuel ih =>
    rw [pmodLoop]
    split
    next hpass => exact (ih (normalized_norm _)).trans (pmodPass_length_le r b (ne_nil_of_normalized h) hpass.2)
    next => exact le_rfl

/-- R125, R129 (a): the exponent of the logarithm gives an element other than 0 back. -/
theorem gexp_glog {x : Byte} (hx : x ≠ 0#8) : gexp (glog x) = x := by
  have hne : x.toNat ≠ 0 := fun h => hx (BitVec.eq_of_toNat_eq h)
  obtain ⟨hexp, hlog⟩ := expTable_logTable x.toNat x.isLt hne
  rw [glog, if_neg hx, gexp_ofNat _ hlog, hexp, BitVec.ofNat_toNat, BitVec.setWidth_eq]

/-- One pass cancels the leading coefficient: what is left is shorter, or the zero polynomial. -/
theorem pmodPass_shorter (hr : normalized r = true) (hr0 : r ≠ [0#8]) (hb : normalized b = true) (hb0 : b ≠ [0#8])
    (hlen : b.length ≤ r.length) : pmodPass r b = [0#8] ∨ (pmodPass r b).length < r.length := by
  obtain ⟨x, r', rfl⟩ := List.exists_cons_of_ne_nil (ne_nil_of_normalized hr)
  obtain ⟨y, b', rfl⟩ := List.exists_cons_of_ne_nil (ne_nil_of_normalized hb)
  have hx := head_ne_zero_of_normalized hr hr0
  have hy := head_ne_zero_of_normalized hb hb0
  have hcancel : gexp ((glog y : Int) + ((glog x : Int) - (glog y : Int))) = x := by
    rw [add_sub_cancel, gexp_glog hx]
  simp only [List.length_cons, Nat.add_le_add_iff_right] at hlen
  simp only [pmodPass, xorCoeffs, List.headD_cons, List.map_cons, hy, if_false, hcancel, List.zipWith_cons_cons,
    BitVec.xor_self, List.cons_append, List.length_cons, List.drop_succ_cons]
  generalize hq : List.zipWith _ _ _ ++ _ = q
  have hql : q.length = r'.length := by
    rw [← hq]
    simp only [List.length_append, List.length_zipWith, List.length_map, List.length_drop]
    omega
  cases q with
  | nil => exact .inl rfl
  | cons c q =>
    refine .inr ?_
    rw [norm, if_pos rfl, Nat.lt_succ_iff, ← hql]
    exact norm_length_le _ (List.cons_ne_nil c q)

/-- With a pass for each coefficient the reduction ends below the divisor (R148 (a)). -/
theorem pmodLoop_shorter {fuel : Nat} (hfuel : r.length ≤ fuel) (hr : normalized r = true) (hb : normalized b = true)
    (hb0 : b ≠ [0#8]) : pmodLoop fuel r b = [0#8] ∨ (pmodLoop fuel r b).length < b.length := by
  induction fuel generalizing r with
  | zero => exact absurd (List.length_eq_zero_iff.mp (Nat.le_zero.mp hfuel)) (ne_nil_of_normalized hr)
  | succ fuel ih =>
    rw [pmodLoop]
    split
    next hpass =>
      obtain hzero | hshort := pmodPass_shorter hr hpass.1 hb hb0 hpass.2
      · left
        rw [hzero]
        cases fuel <;> simp [pmodLoop]
      · exact ih (by omega) (normalized_norm _)
    next hend =>
      rw [not_and_or, not_not, not_le] at hend
      exact hend

theorem pmod_shorter (hr : normalized r = true) (hb : normalized b = true) (hb0 : b ≠ [0#8]) :
    pmod r b = [0#8] ∨ (pmod r b).length < b.length :=
  pmodLoop_shorter le_rfl hr hb hb0

theorem polyOk_pmod (h : polyOk r = true) : polyOk (pmod r b) = true := by
  rw [polyOk_iff] at h ⊢
  exact ⟨normalized_pmodLoop _ h.1, (length_pmodLoop_le _ h.1).trans h.2⟩

end

/-! ## The generator (R140) -/

theorem pgen_succ (n : Nat) : pgen (n + 1) = pmul (pgen n) [1#8, gexp n] := by
  simp [pgen, List.range_succ]

/-- A monic polynomial times a monic linear factor is monic, one coefficient longer. -/
theorem pmul_monic_linear (g : List Byte) (c : Byte) :
    ∃ g', pmul (1#8 :: g) [1#8, c] = 1#8 :: g' ∧ g'.length = g.length + 1 := by
  have hone : gmul 1#8 1#8 = 1#8 := by decide +kernel
  obtain ⟨g', hg'⟩ : ∃ g', convolve (1#8 :: g) [1#8, c] = 1#8 :: g' := by
    simp only [convolve, List.map_cons, hone, List.cons_append, xorCoeffs, List.zipWith_cons_cons, BitVec.xor_zero]
    exact ⟨_, rfl⟩
  have hlen := convolve_length (1#8 :: g) [1#8, c] (List.cons_ne_nil _ _)
  rw [hg'] at hlen
  simp only [List.length_cons, List.length_nil] at hlen
  exact ⟨g', by rw [pmul, hg', norm_of_head _ _ (by decide)], by omega⟩

theorem pgen_monic (n : Nat) : ∃ g, pgen n = 1#8 :: g ∧ g.length = n := by
  induction n with
  | zero => exact ⟨[], rfl, rfl⟩
  | succ n ih =>
    obtain ⟨g, hg, hlen⟩ := ih
    obtain ⟨g', hg', hlen'⟩ := pmul_monic_linear g (gexp n)
    exact ⟨g', by rw [pgen_succ, hg, hg'], by omega⟩

theorem length_pgen (n : Nat) : (pgen n).length = n + 1 := by
  obtain ⟨g, hg, hlen⟩ := pgen_monic n
  rw [hg, List.length_cons, hlen]

theorem normalized_pgen (n : Nat) : normalized (pgen n) = true := by
  obtain ⟨g, hg, -⟩ := pgen_monic n
  rw [hg, ← norm_of_head 1#8 g (by decide)]
  exact normalized_norm _

theorem pgen_ne_zero (n : Nat) : pgen n ≠ [0#8] := by
  obtain ⟨g, hg, -⟩ := pgen_monic n
  rw [hg]
  simp

/-! ## The correction codewords (R175) -/

/-- A block's correction codewords are exactly as many as its descriptor gives. -/
theorem length_correctionCodewords (data : List Byte) (ec : Nat) : (correctionCodewords data ec).length = ec := by
  have hrem := pmod_shorter (normalized_shiftLeft ec (normalized_norm data)) (normalized_pgen ec) (pgen_ne_zero ec)
  rw [length_pgen] at hrem
  unfold correctionCodewords
  dsimp only
  split
  next => exact List.length_replicate
  next hne =>
    have hlen := hrem.resolve_left hne
    rw [List.length_append, List.length_replicate]
    omega

end Sys2Proof.Machine
end

section
/-!
PROOFS. Lengths of the bit buffer and of the codeword stream: the bits of a field (R112), the padding to the capacity (R174),
the interleaved stream (R177), and the place of a block's correction codewords in ECC (R171).
-/

namespace Sys2Proof.Machine

/-! ## The bits of a field -/

@[simp] theorem length_bitsMsbFirst (value n : Nat) : (bitsMsbFirst value n).length = n := by
  simp [bitsMsbFirst]

theorem numberOfBits_concat (bits : List Bool) (b : Bool) :
    numberOfBits (bits ++ [b]) = 2 * numberOfBits bits + b.toNat := by
  simp [numberOfBits]

/-- The last bit of a field is the value's low bit, the others are those of half the value. -/
theorem bitsMsbFirst_succ (value n : Nat) :
    bitsMsbFirst value (n + 1) = bitsMsbFirst (value / 2) n ++ [value.testBit 0] := by
  simp only [bitsMsbFirst, List.range_succ, List.map_append, List.map_cons, List.map_nil, Nat.add_sub_cancel,
    Nat.sub_self]
  congr 1
  refine List.map_congr_left fun i hi => ?_
  rw [List.mem_range] at hi
  rw [← Nat.testBit_succ, show (n - 1 - i).succ = n - i by omega]

/-- R112: the bits of a field read back as its value modulo 2^n. -/
theorem numberOfBits_bitsMsbFirst (value n : Nat) : numberOfBits (bitsMsbFirst value n) = value % 2 ^ n := by
  induction n generalizing value with
  | zero => simp [bitsMsbFirst, numberOfBits, Nat.mod_one]
  | succ n ih =>
    rw [bitsMsbFirst_succ, numberOfBits_concat, ih, Nat.toNat_testBit, Nat.pow_zero, Nat.div_one, Nat.pow_succ',
      Nat.mod_mul]
    omega

/-- Bit i of a number given by its binary digits, least significant last. -/
theorem testBit_numberOfBits (bits : List Bool) (i : Nat) : (numberOfBits bits).testBit i = bits.reverse.getD i false := by
  induction bits using List.reverseRecOn generalizing i with
  | nil => simp [numberOfBits]
  | append_singleton bits b ih =>
    rw [numberOfBits_concat, List.reverse_append, List.reverse_singleton, List.singleton_append]
    cases i with
    | zero => cases b <;> simp [Nat.testBit_zero, Nat.add_mod]
    | succ i =>
      rw [Nat.testBit_succ, List.getD_cons_succ, ← ih, show (2 * numberOfBits bits + b.toNat) / 2 = numberOfBits bits by
        have := b.toNat_lt
        omega]

/-! ## Padding (R174) -/

theorem length_padBytes (n : Nat) : (padBytes n).length = 8 * n := by
  simp [padBytes, Nat.mul_comm]

/-- The buffer that BW.FIN leaves is exactly as long as the capacity. -/
theorem length_padded {bb : List Bool} {cap : Nat} (hcap : cap % 8 = 0) (h : bb.length ≤ cap) :
    (padded bb cap).length = cap := by
  have hterm : (bb ++ terminator cap bb.length).length ≤ cap := by
    rw [List.length_append, terminator]
    split
    next h4 =>
      rw [List.length_replicate]
      omega
    next => exact h
  unfold padded
  simp only [List.length_append (bs := boundaryZeros _), List.length_append (bs := padBytes _), length_padBytes]
  generalize (bb ++ terminator cap bb.length).length = len at hterm
  simp only [boundaryZeros, List.length_replicate]
  omega

/-! ## Interleaving (R177) -/

/-- Below a height no less than `l`, exactly `l` positions lie below `l`. -/
theorem sum_positions_below {l height : Nat} (h : l ≤ height) :
    ((List.range height).map (fun i => if i < l then 1 else 0)).sum = l := by
  obtain ⟨d, rfl⟩ := Nat.exists_eq_add_of_le h
  have hlow : (List.range l).map (fun i => if i < l then 1 else 0) = List.replicate l 1 := by
    rw [List.eq_replicate_iff]
    simp
  have hhigh : (List.range d).map ((fun i => if i < l then 1 else 0) ∘ (l + ·)) = List.replicate d 0 := by
    rw [List.eq_replicate_iff]
    simp
  rw [List.range_add, List.map_append, List.sum_append, List.map_map, hlow, hhigh]
  simp

/-- Position i of the parts that have one. -/
theorem length_column (parts : List (List Byte)) (i : Nat) :
    (parts.filterMap (fun part => part[i]?)).length = (parts.map (fun part => if i < part.length then 1 else 0)).sum := by
  induction parts with
  | nil => rfl
  | cons part rest ih =>
    rw [List.map_cons, List.sum_cons, ← ih]
    by_cases h : i < part.length
    · simp [h, Nat.add_comm]
    · simp [h]

/-- Columns up to a height no less than every part's length hold every position of every part. -/
theorem sum_columns {height : Nat} (parts : List (List Byte)) (h : ∀ part ∈ parts, part.length ≤ height) :
    ((List.range height).map fun i => (parts.map fun part => if i < part.length then 1 else 0).sum).sum
      = (parts.map (·.length)).sum := by
  induction parts with
  | nil => simp
  | cons part rest ih =>
    obtain ⟨hpart, hrest⟩ := List.forall_mem_cons.mp h
    simp only [List.map_cons, List.sum_cons, List.sum_map_add, sum_positions_below hpart, ih hrest]

/-- Interleaving keeps every byte. -/
theorem length_interleave (parts : List (List Byte)) : (interleave parts).length = (parts.map (·.length)).sum := by
  have hheight : ∀ part ∈ parts, part.length ≤ (parts.map (·.length)).foldl max 0 := by
    intro part hpart
    rw [List.foldl_max]
    exact (List.le_max?_getD_of_mem (List.mem_map_of_mem hpart)).trans (le_max_right _ _)
  unfold interleave
  simp only [List.length_flatMap, length_column]
  exact sum_columns parts hheight

/-! ## The block quantities (R171) -/

theorem map_getD_range {α : Type} (l : List α) (d : α) : (List.range l.length).map (fun k => l.getD k d) = l := by
  refine List.ext_getElem (by simp) fun k hk hk' => ?_
  simp [List.getElem?_eq_getElem hk']

/-- A part of a sum: the terms before place k and the one at k. -/
theorem sum_take_add_getD_le (l : List Nat) (k : Nat) : (l.take k).sum + l.getD k 0 ≤ l.sum := by
  by_cases h : k < l.length
  · rw [List.getD_eq_getElem _ _ h, ← List.sum_take_succ l k h, ← List.sum_take_add_sum_drop l (k + 1)]
    exact Nat.le_add_right _ _
  · rw [List.getD_eq_default _ _ (Nat.le_of_not_lt h), Nat.add_zero, List.take_of_length_le (Nat.le_of_not_lt h)]

section
variable {bs : List Block}

/-- Block k's correction codewords lie among the correction codewords of all blocks (R171). -/
theorem checkOffset_add_le (bs : List Block) (k : Nat) :
    checkOffset bs k + (bs.map (·.ec)).getD k 0 ≤ checkCodewords bs := by
  have h := sum_take_add_getD_le (bs.map (·.ec)) k
  rwa [← List.map_take] at h

theorem Block.valid_iff {b : Block} : b.valid = true ↔ 1 ≤ b.dc ∧ b.dc ≤ b.tc ∧ b.tc ≤ 256 := by
  simp [Block.valid, and_assoc]

/-- R171: a valid block's data and correction codewords make its total. -/
theorem dataCodewords_add_checkCodewords (h : ∀ b ∈ bs, b.valid = true) :
    dataCodewords bs + checkCodewords bs = totalCodewords bs := by
  unfold dataCodewords checkCodewords totalCodewords
  rw [← List.sum_map_add]
  refine congrArg List.sum (List.map_congr_left fun b hb => ?_)
  obtain ⟨-, hle, -⟩ := Block.valid_iff.mp (h b hb)
  exact Nat.add_sub_cancel' hle

/-- Data and correction codewords together: the stream is as long as all blocks (R177). -/
theorem length_codewordStream (s : State) (h : ∀ b ∈ bs, b.valid = true) :
    (s.codewordStream bs).length = totalCodewords bs := by
  have hdata : ((List.range bs.length).map (s.blockData bs)).map (·.length) = bs.map (·.dc) := by
    simpa [State.blockData, Function.comp_def] using map_getD_range (bs.map (·.dc)) 0
  have hecc : ((List.range bs.length).map (s.blockEcc bs)).map (·.length) = bs.map (·.ec) := by
    simpa [State.blockEcc, Function.comp_def] using map_getD_range (bs.map (·.ec)) 0
  rw [State.codewordStream, List.length_append, length_interleave, length_interleave, hdata, hecc]
  exact dataCodewords_add_checkCodewords h

end

end Sys2Proof.Machine
end

section
/-!
PROOFS. The address map (R25, R63): the windows of `locate` as a table, and the gaps between them.
-/

namespace Sys2Proof.Machine

open Sys2Proof.Claims

/-- A window of R63: its first address, how many words it has, and what stands at its word w. -/
abbrev Window := Nat × Nat × (Nat → Location)

/-- The windows of R63 above the registers. -/
def windows : List Window :=
  [(0x01000, 7, .alntab), (0x01100, 128, .blktab), (0x02000, 256, .exp), (0x02400, 256, .log),
    (0x08000, 2048, fun w => .poly (w / 256) (w % 256)), (0x10000, 8192, .stage), (0x20000, 4096, .bb),
    (0x24000, 4096, .ecc), (0x28000, 4096, .cw), (0x40000, 65536, fun w => .grid (w / 256) (w % 256))]

/-- Below each window's first word the ranges of the earlier windows end; inside it the word counts from there. -/
theorem locate_window : ∀ e ∈ windows, ∀ w < e.2.1, locate (e.1 + 4 * w) = e.2.2 w := by
  simp only [windows, List.forall_mem_cons, List.not_mem_nil, false_imp_iff, implies_true, and_true]
  refine ⟨?_, ?_, ?_, ?_, ?_, ?_, ?_, ?_, ?_, ?_⟩
  all_goals
    intro w hw
    have hword : ∀ base, (base + 4 * w - base) / 4 = w := by omega
    simp (disch := omega) only [locate, if_neg, if_pos, hword]

theorem locate_register {a : Nat} (h : a < 0x100) : locate a = locateRegister (a / 4) := if_pos h

/-- The words of 0x000-0x0FF that R25 gives no register. -/
theorem locateRegister_unmapped :
    ∀ w < 64, (0x0B ≤ w ∧ w < 0x10) ∨ (0x1E ≤ w ∧ w < 0x20) ∨ 0x32 ≤ w → locateRegister w = .unmapped := by
  decide

theorem locate_register_gap {a : Nat}
    (h : (0x02C ≤ a ∧ a < 0x040) ∨ (0x078 ≤ a ∧ a < 0x080) ∨ (0x0C8 ≤ a ∧ a < 0x100)) : locate a = .unmapped := by
  rw [locate_register (by omega)]
  exact locateRegister_unmapped _ (by omega) (by omega)

theorem locate_window_gap {a : Nat}
    (h : (0x00100 ≤ a ∧ a < 0x01000) ∨ (0x0101C ≤ a ∧ a < 0x01100) ∨ (0x01300 ≤ a ∧ a < 0x02000) ∨
      (0x02800 ≤ a ∧ a < 0x08000) ∨ (0x0A000 ≤ a ∧ a < 0x10000) ∨ (0x18000 ≤ a ∧ a < 0x20000) ∨
      (0x2C000 ≤ a ∧ a < 0x40000) ∨ 0x80000 ≤ a) : locate a = .unmapped := by
  simp (disch := omega) only [locate, if_neg]

/-- Word 256 i + j of a window of rows of 256 words. -/
theorem locate_cell {base rows : Nat} {at_ : Nat → Nat → Location}
    (h : ∀ w < 256 * rows, locate (base + 4 * w) = at_ (w / 256) (w % 256)) {i j : Nat} (hi : i < rows) (hj : j < 256) :
    locate (base + 4 * (256 * i + j)) = at_ i j := by
  rw [h _ (by omega), show (256 * i + j) / 256 = i by omega, show (256 * i + j) % 256 = j by omega]

/-- Settles O12: the registers and their gaps word by word, the other words by the table of windows and their gaps. -/
theorem addressMap : Obligations.AddressMap := by
  unfold Obligations.AddressMap
  have window (k : Fin 10) := locate_window windows[k] (List.getElem_mem _)
  exact ⟨by decide, by decide, window 0, window 1, fun w hw => ⟨window 2 w hw, window 3 w hw⟩,
    fun i hi j hj => locate_cell (rows := 8) (window 4) hi hj, window 5,
    fun w hw => ⟨window 6 w hw, window 7 w hw, window 8 w hw⟩,
    fun r hr c hc => locate_cell (rows := 256) (window 9) hr hc,
    fun _ => locate_register_gap, fun _ => locate_window_gap⟩

/-! ## The STAGE window -/

/-- The byte of STAGE a location names. -/
def Location.stageIndex : Location → Option Nat
  | .stage w => some w
  | _ => none

theorem locateRegister_stageIndex : ∀ w < 64, (locateRegister w).stageIndex = none := by decide

/-- No address outside the STAGE window names a byte of STAGE. -/
theorem stageIndex_locate_outside {addr : Nat} (h : ¬ (0x10000 ≤ addr ∧ addr < 0x18000)) :
    (locate addr).stageIndex = none := by
  rw [locate, if_neg h]
  split
  next hreg => exact locateRegister_stageIndex _ (by omega)
  next =>
    simp only [apply_ite Location.stageIndex]
    simp only [Location.stageIndex, ite_self]

/-- The STAGE window holds the bytes below STAGE_MAX (R63). -/
theorem lt_of_locate_eq_stage {addr a : Nat} (h : locate addr = .stage a) : a < 8192 := by
  by_cases hrange : 0x10000 ≤ addr ∧ addr < 0x18000
  · simp (disch := omega) only [locate, if_neg, if_pos, Location.stage.injEq] at h
    omega
  · have hnone := stageIndex_locate_outside hrange
    rw [h] at hnone
    cases hnone

end Sys2Proof.Machine
end

section
/-!
PROOFS. What a step can do, said once: whose turn it is, what each host input leaves, and which write an idle or a busy
engine performs.
-/

namespace Sys2Proof.Machine

variable {s t : State}

/-! ## Host writes -/

theorem State.hostWrite_reset (hrst : s.rstN = false) (loc : Location) (w : Word) : s.hostWrite loc w = s := by
  simp [State.hostWrite, hrst]

theorem State.hostWrite_busy (hrst : s.rstN = true) (hbusy : s.status.busy = true) (loc : Location) (w : Word) :
    s.hostWrite loc w = s.busyWrite loc w := by
  simp [State.hostWrite, hrst, hbusy]

theorem State.hostWrite_idle (hrst : s.rstN = true) (hbusy : s.status.busy = false) (loc : Location) (w : Word) :
    s.hostWrite loc w = s.idleWrite loc w := by
  simp [State.hostWrite, hrst, hbusy]

/-- A write is ignored in reset, is a soft reset, is dropped, or lands in an idle engine (R67, R251). -/
theorem State.hostWrite_cases (s : State) (loc : Location) (w : Word) :
    (s.rstN = false ∧ s.hostWrite loc w = s) ∨
      s.rstN = true ∧
        ((loc = .ctrl ∧ w.getLsbD 0 = true) ∧ s.hostWrite loc w = s.engineReset ∨ s.hostWrite loc w = s.dropWrite ∨
          s.status.busy = false ∧ s.hostWrite loc w = s.idleWrite loc w) := by
  cases hrst : s.rstN with
  | false => exact .inl ⟨rfl, State.hostWrite_reset hrst loc w⟩
  | true =>
    refine .inr ⟨rfl, ?_⟩
    cases hbusy : s.status.busy with
    | false => exact .inr (.inr ⟨rfl, State.hostWrite_idle hrst hbusy loc w⟩)
    | true =>
      rw [State.hostWrite_busy hrst hbusy, State.busyWrite]
      split
      next hsoft => exact .inl ⟨hsoft, rfl⟩
      next => exact .inr (.inl rfl)

/-- R252: a CTRL write with wdata[0] = 1 is the soft reset, whatever the engine is doing. -/
theorem State.hostWrite_softReset (hrst : s.rstN = true) {w : Word} (hw : w.getLsbD 0 = true) :
    s.hostWrite .ctrl w = s.engineReset := by
  cases hbusy : s.status.busy with
  | false => rw [State.hostWrite_idle hrst hbusy, State.idleWrite, if_pos hw]
  | true => rw [State.hostWrite_busy hrst hbusy, State.busyWrite, if_pos ⟨rfl, hw⟩]

/-- ECC is read-only to the host (R37): only a soft reset changes it. -/
theorem State.idleWrite_ecc (s : State) (loc : Location) (w : Word) :
    (s.idleWrite loc w).ecc = s.ecc ∨ s.idleWrite loc w = s.engineReset := by
  cases loc
  case ctrl =>
    rw [State.idleWrite]
    split
    · exact .inr rfl
    · exact .inl rfl
  case cmd =>
    rw [State.idleWrite]
    split <;> exact .inl rfl
  all_goals exact .inl rfl

/-! ## Host inputs -/

/-- An input is a read of a location, a write at one of the map, a WAIT's read of STATUS, or an edge of `rst_n`. -/
theorem State.perform_cases {i : Input} (h : s.perform i = .next t) :
    (∃ loc, t = s.hostRead loc) ∨
      (∃ loc w, (∀ a, loc = .stage a → a < 8192) ∧ t = s.hostWrite loc w) ∨
      (∃ inputs, t = { s.hostRead .status with inputs := inputs }) ∨
      (∃ level, t = State.engineReset { s with rstN := level }) := by
  cases i with
  | read bytes addr =>
    rw [State.perform] at h
    split at h
    · exact .inl ⟨_, (Host.Outcome.next.inj h).symm⟩
    · cases h
  | write bytes addr data =>
    rw [State.perform] at h
    split at h
    · exact .inr (.inl ⟨_, data, fun _ => lt_of_locate_eq_stage, (Host.Outcome.next.inj h).symm⟩)
    · cases h
  | wait =>
    obtain rfl := Host.Outcome.next.inj h
    refine .inr (.inr (.inl ?_))
    dsimp only
    split
    · exact ⟨_, rfl⟩
    · exact ⟨(s.hostRead .status).inputs, rfl⟩
  | rstLow => exact .inr (.inr (.inr ⟨false, (Host.Outcome.next.inj h).symm⟩))
  | rstHigh => exact .inr (.inr (.inr ⟨true, (Host.Outcome.next.inj h).symm⟩))

/-! ## Steps -/

/-- A step is the pending command's, an illegal word's error, a host input's, or an idle engine's that nothing reaches. -/
theorem step_cases (h : step s = .next t) :
    (s.engineMoves = true ∧ ((∃ i, decode s.cmd = .ok i ∧ exec i s = .next t) ∨ t = s.illegalStep)) ∨
      s.engineMoves = false ∧
        (t = s ∨ ∃ i rest, s.inputs = i :: rest ∧
          State.perform { s with inputs := rest, delay := s.delay - 1 } i = .next t) := by
  cases hmoves : s.engineMoves with
  | true =>
    refine .inl ⟨rfl, ?_⟩
    rw [step_engineMoves s hmoves] at h
    cases hp : s.pending with
    | ok i =>
      rw [hp] at h
      exact .inl ⟨i, hp, h⟩
    | error r =>
      rw [hp] at h
      exact .inr (Host.Outcome.next.inj h).symm
  | false =>
    refine .inr ⟨rfl, ?_⟩
    rw [step_input s hmoves, State.inputStep] at h
    split at h
    next => exact .inl (Host.Outcome.next.inj h).symm
    next i rest hin => exact .inr ⟨i, rest, hin, h⟩

end Sys2Proof.Machine
end

section
/-!
PROOFS. What every command keeps of the state's data: `State.Bounded` holds of every state a run reaches, also after a
composed command's error (R233); `State.DataOk` adds the clauses of an error-free engine, and every command that completes
keeps it.
-/

namespace Sys2Proof.Machine

/-- The clauses of the invariant about the memories, the grid, the polynomial registers and the bit buffer that hold of
every state a run reaches, whatever has been drawn. -/
structure State.Bounded (s : State) : Prop where
  stage_wf : s.stage.wf = true
  ecc_wf : s.ecc.wf = true
  cw_wf : s.cw.wf = true
  stage_range : s.stage.within Config.stageMax = true
  cw_range : s.cw.within Config.cwMax = true
  grid_wf : s.grid.wf = true
  grid_range : s.grid.within Config.nMax = true
  polys : s.p.all polyOk = true
  bb_length : s.bb.length ≤ Config.bbBits

/-- The clauses of the invariant about the data of an error-free engine. -/
structure State.DataOk (s : State) : Prop extends State.Bounded s where
  bitlen : s.bitlen = Word.ofNat s.bb.length
  cwlen : s.cwlen.toNat ≤ Config.cwMax
  modcnt : legalDimension s.modcnt.toNat = true
  grid_symbol : s.grid.within s.modcnt.toNat = true

section
variable {s : State}

theorem State.Inv.bounded (h : s.Inv) : s.Bounded := { h with }

theorem State.Inv.dataOk (h : s.Inv) (he : s.ErrorFree) : s.DataOk :=
  { h with
    bitlen := h.bitlen he, cwlen := h.cwlen he, modcnt := h.modcnt he, grid_symbol := h.grid_symbol he }

/-! ## The draws of a composed command's error -/

theorem State.Bounded.drawBuild (h : s.Bounded) : s.drawBuild.Bounded :=
  { h with grid_wf := Grid.wf_ofFn _ _, grid_range := Grid.within_ofFn _ le_rfl }

theorem State.Bounded.drawSelect (h : s.Bounded) : s.drawSelect.Bounded :=
  { h with grid_wf := Grid.wf_ofFn _ _, grid_range := Grid.within_ofFn _ le_rfl }

theorem State.drawSymbol_ecc : s.drawSymbol.ecc = Store.ofFn 0#8 Config.cwMax (Config.freeByte s.freeCount) := by
  simp only [State.drawSymbol]

theorem State.drawSymbol_cw : s.drawSymbol.cw = Store.ofFn 0#8 Config.cwMax (Config.freeByte (s.freeCount + 1)) := by
  simp only [State.drawSymbol]

theorem State.Bounded.drawSymbol (h : s.Bounded) : s.drawSymbol.Bounded :=
  { h with
    grid_wf := Grid.wf_ofFn _ _, grid_range := Grid.within_ofFn _ le_rfl,
    ecc_wf := by rw [State.drawSymbol_ecc]; exact Memory.wf_ofFn _ _,
    cw_wf := by rw [State.drawSymbol_cw]; exact Memory.wf_ofFn _ _,
    cw_range := by rw [State.drawSymbol_cw]; exact Memory.within_ofFn _ le_rfl,
    bb_length := List.length_take_le _ _ }

theorem State.Bounded.errorBase (i : Instr) (h : s.Bounded) : (errorBase i s).Bounded := by
  cases i
  case mxBuild => exact h.drawBuild
  case mxSel => exact h.drawSelect
  case qBuild => exact h.drawSymbol
  all_goals exact h

/-! ## One rule for each piece of data a command writes -/

theorem toNat_wordOfNat {n : Nat} (h : n < 2 ^ 32) : (Word.ofNat n).toNat = n :=
  (BitVec.toNat_ofNat _ _).trans (Nat.mod_eq_of_lt h)

theorem legalDimension_iff {n : Nat} : legalDimension n = true ↔ n = 0 ∨ (21 ≤ n ∧ n ≤ 177 ∧ n % 4 = 1) := by
  simp [legalDimension, and_assoc]

namespace State.DataOk

theorem poly_ok (h : s.DataOk) (i : PReg) : polyOk (s.poly i) = true :=
  Vector.all_eq_true.mp h.polys i.val i.isLt

/-- With a grid latched, its dimension is one of 21..177 (R186). -/
theorem dimension (h : s.DataOk) (hgrid : s.modcnt ≠ 0#32) : 21 ≤ s.modcnt.toNat ∧ s.modcnt.toNat ≤ 177 := by
  obtain hzero | ⟨hlow, hhigh, -⟩ := legalDimension_iff.mp h.modcnt
  · exact absurd (BitVec.eq_of_toNat_eq hzero) hgrid
  · exact ⟨hlow, hhigh⟩

theorem setResult (h : s.DataOk) (n : Nat) : (s.setResult n).DataOk := { h with }

theorem setScore (h : s.DataOk) (x : Score) : (s.setScore x).DataOk := { h with }

theorem setPoly (h : s.DataOk) (d : PReg) {q : Poly} (hq : polyOk q = true) : (s.setPoly d q).DataOk :=
  { h with
    polys := by
      rw [Vector.all_eq_true]
      intro j hj
      rw [State.setPoly_p, Vector.getElem_set]
      split
      · exact hq
      · exact Vector.all_eq_true.mp h.polys j hj }

theorem withStage (h : s.DataOk) {m : Memory} (hwf : m.wf = true) (hrange : m.within Config.stageMax = true) :
    ({ s with stage := m }).DataOk := { h with stage_wf := hwf, stage_range := hrange }

theorem withEcc (h : s.DataOk) {m : Memory} (hwf : m.wf = true) : ({ s with ecc := m }).DataOk := { h with ecc_wf := hwf }

theorem withBuffer (h : s.DataOk) {bits : List Bool} (hlen : bits.length ≤ Config.bbBits) :
    ({ s with bb := bits, bitlen := Word.ofNat bits.length }).DataOk := { h with bb_length := hlen, bitlen := rfl }

theorem withStream (h : s.DataOk) {bytes : List Byte} (hlen : bytes.length ≤ Config.cwMax) :
    ({ s with cw := Memory.ofBytes bytes, cwlen := Word.ofNat bytes.length }).DataOk :=
  { h with
    cw_wf := Memory.wf_ofBytes _, cw_range := Memory.within_ofBytes hlen,
    cwlen := (toNat_wordOfNat (hlen.trans_lt (by decide))).trans_le hlen }

/-- A grid that stays inside the latched dimension. -/
theorem withGrid (h : s.DataOk) {g : Grid} (hwf : g.wf = true) (hin : g.within s.modcnt.toNat = true) :
    ({ s with grid := g }).DataOk :=
  { h with
    grid_wf := hwf, grid_symbol := hin,
    grid_range := Grid.within_mono hin (by
      rcases legalDimension_iff.mp h.modcnt with hn | ⟨-, hn, -⟩ <;> simp only [Config.nMax] <;> omega) }

theorem paintAll (h : s.DataOk) {cells : List CellWrite} (hcells : CellsWithin s.modcnt.toNat cells) :
    ({ s with grid := s.grid.paintAll cells }).DataOk :=
  h.withGrid (Grid.wf_paintAll _ _ h.grid_wf) (Grid.within_paintAll h.grid_symbol hcells)

end State.DataOk
end

/-! ## The commands, those that a composed command contains first -/

section
variable {s u : State}

namespace State.DataOk

theorem append (h : s.DataOk) {bits : List Bool} (hu : s.append bits = .ok u) : u.DataOk := by
  obtain ⟨hlen, rfl⟩ := s.append_eq_ok.mp hu
  rw [← List.length_append] at hlen ⊢
  exact h.withBuffer hlen

/-- The padded buffer is as long as the capacity, and the data codewords fit in CW_MAX bytes (R172, R174). -/
theorem bwFin (h : s.DataOk) (hu : bwFinBody s = .ok u) : u.DataOk := by
  obtain ⟨hchecks, hcap, rfl⟩ := bwFinBody_eq_ok.mp hu
  obtain ⟨-, -, -, hvalid, htotal⟩ := s.checkBlocks_eq_ok.mp hchecks
  refine h.withBuffer ?_
  have hsum := dataCodewords_add_checkCodewords hvalid
  rw [length_padded (by rw [totalDataBits]; omega) hcap, totalDataBits]
  simp only [Config.bbBits]
  omega

theorem storeBlockEcc (h : s.DataOk) (bs : List Block) (k : Nat) : (s.storeBlockEcc bs k).DataOk :=
  h.withEcc (Memory.wf_writeBytes _ _ _ h.ecc_wf)

theorem rsAll (h : s.DataOk) (hu : rsAllBody s = .ok u) : u.DataOk := by
  obtain ⟨-, rfl⟩ := rsAllBody_eq_ok.mp hu
  rw [← foldl_storeBlockEcc_frame]
  refine setResult ?_ _
  generalize List.range s.blocks.length = ks
  generalize s.blocks = bs
  clear hu
  induction ks generalizing s with
  | nil => exact h
  | cons k ks ih => exact ih (h.storeBlockEcc bs k)

theorem cwIlv (h : s.DataOk) (hu : cwIlvBody s = .ok u) : u.DataOk := by
  obtain ⟨hchecks, rfl⟩ := cwIlvBody_eq_ok.mp hu
  obtain ⟨-, -, -, hvalid, htotal⟩ := s.checkBlocks_eq_ok.mp hchecks
  exact h.withStream ((length_codewordStream s hvalid).trans_le htotal)

/-- MX.CLR latches a legal dimension and leaves no assigned cell (R187). -/
theorem mxClr (h : s.DataOk) (hu : mxClrBody s = .ok u) : u.DataOk := by
  obtain ⟨⟨hlow, hhigh⟩, rfl⟩ := mxClrBody_eq_ok.mp hu
  have hn : (Word.ofNat (4 * s.version.toNat + 17)).toNat = 4 * s.version.toNat + 17 := toNat_wordOfNat (by omega)
  exact { h with
    grid_wf := rfl, grid_range := rfl, grid_symbol := rfl,
    modcnt := by rw [hn, legalDimension_iff]; omega }

theorem mxFnd (h : s.DataOk) (hu : mxFndBody s = .ok u) : u.DataOk := by
  obtain ⟨-, rfl⟩ := mxFndBody_eq_ok.mp hu
  exact h.paintAll cellsWithin_finderCells

theorem mxAln (h : s.DataOk) (hu : mxAlnBody s = .ok u) : u.DataOk := by
  obtain ⟨-, hcentres, rfl⟩ := mxAlnBody_eq_ok.mp hu
  rw [badCentre_eq_none] at hcentres
  obtain ⟨hwf, hin⟩ := Grid.paintAlignments_ok (centres := pairs s.centres s.centres) h.grid_wf h.grid_symbol
    fun x hx => ⟨(hcentres _ (mem_pairs.mp hx).1).2, (hcentres _ (mem_pairs.mp hx).2).2⟩
  exact h.withGrid hwf hin

theorem mxTim (h : s.DataOk) (hu : mxTimBody s = .ok u) : u.DataOk := by
  obtain ⟨hgrid, rfl⟩ := mxTimBody_eq_ok.mp hu
  exact h.withGrid (Grid.wf_fillAll _ _ h.grid_wf)
    (Grid.within_fillAll h.grid_symbol (cellsWithin_timingCells (h.dimension hgrid).1))

theorem mxFmt {m : MaskId} {trial : Bool} (h : s.DataOk) (hu : mxFmtBody m trial s = .ok u) : u.DataOk := by
  obtain ⟨hgrid, rfl⟩ := mxFmtBody_eq_ok.mp hu
  exact h.paintAll (cellsWithin_formatCells (h.dimension hgrid).1 _ _)

theorem mxVer {trial : Bool} (h : s.DataOk) (hu : mxVerBody trial s = .ok u) : u.DataOk := by
  obtain ⟨hgrid, rfl⟩ := mxVerBody_eq_ok.mp hu
  split
  · exact h.withGrid h.grid_wf h.grid_symbol
  · exact h.paintAll (cellsWithin_versionCells (h.dimension hgrid).1 _ _)

theorem mxMap {m : MaskId} (h : s.DataOk) (hu : mxMapBody m s = .ok u) : u.DataOk := by
  obtain ⟨-, rfl⟩ := mxMapBody_eq_ok.mp hu
  exact (h.paintAll (cellsWithin_mapCells s m)).setResult _

theorem mxBuild {m : MaskId} {trial : Bool} (h : s.DataOk) (hu : mxBuildBody m trial s = .ok u) : u.DataOk := by
  simp only [mxBuildBody, bind_eq_ok] at hu
  obtain ⟨s1, h1, s2, h2, s3, h3, s4, h4, s5, h5, s6, h6, h7⟩ := hu
  exact ((((((h.mxClr h1).mxFnd h2).mxAln h3).mxTim h4).mxFmt h5).mxVer h6).mxMap h7

theorem mxSel (h : s.DataOk) (hu : mxSelBody s = .ok u) : u.DataOk := by
  obtain ⟨best, totals, t, ht, rfl⟩ := mxSelBody_ok hu
  exact setScore (s := { t with pentab := totals, masksel := _ }) { h.mxBuild ht with } best.2

theorem qBuild (h : s.DataOk) (hu : qBuildBody s = .ok u) : u.DataOk := by
  obtain ⟨s1, s2, s3, h1, h2, h3, h4⟩ := qBuildBody_ok hu
  exact (((h.bwFin h1).rsAll h2).cwIlv h3).mxSel h4

/-- Every command that completes keeps the data of an error-free engine in order. -/
theorem commandBody {i : Instr} (h : s.DataOk) (hu : commandBody i s = .ok u) : u.DataOk := by
  cases i with
  | nop => obtain rfl := nopBody_eq_ok.mp hu; exact h
  | gfExp => obtain rfl := gfExpBody_eq_ok.mp hu; exact h.setResult _
  | gfLog => obtain ⟨-, rfl⟩ := gfLogBody_eq_ok.mp hu; exact h.setResult _
  | gfMul => obtain ⟨-, -, rfl⟩ := gfMulBody_eq_ok.mp hu; exact h.setResult _
  | pClr d => obtain rfl := pClrBody_eq_ok.mp hu; exact h.setPoly d rfl
  | pLoad d len =>
    obtain ⟨-, hlen, rfl⟩ := pLoadBody_eq_ok.mp hu
    exact h.setPoly d (polyOk_iff.mpr ⟨normalized_norm _, hlen⟩)
  | pStore a =>
    obtain ⟨hrange, rfl⟩ := pStoreBody_eq_ok.mp hu
    exact (h.withStage (Memory.wf_writeBytes _ _ _ h.stage_wf)
      (Memory.within_writeBytes h.stage_range hrange)).setResult _
  | pShl d a n =>
    obtain ⟨hlen, rfl⟩ := pShlBody_eq_ok.mp hu
    exact h.setPoly d (polyOk_iff.mpr ⟨normalized_shiftLeft _ (polyOk_iff.mp (h.poly_ok a)).1, hlen⟩)
  | pMul d a b =>
    obtain ⟨hlen, rfl⟩ := pMulBody_eq_ok.mp hu
    exact h.setPoly d (polyOk_iff.mpr ⟨normalized_norm _, hlen⟩)
  | pMod d a b =>
    obtain ⟨-, rfl⟩ := pModBody_eq_ok.mp hu
    exact h.setPoly d (polyOk_pmod (h.poly_ok a))
  | pGen d n =>
    obtain rfl := pGenBody_eq_ok.mp hu
    exact h.setPoly d (polyOk_iff.mpr ⟨normalized_pgen _, by rw [length_pgen]; exact n.isLt⟩)
  | rsBlock k =>
    obtain ⟨-, -, rfl⟩ := (rsBlockBody_eq_ok s).mp hu
    exact (h.storeBlockEcc _ _).setResult _
  | rsAll => exact h.rsAll hu
  | cwIlv => exact h.cwIlv hu
  | bwRst => obtain rfl := bwRstBody_eq_ok.mp hu; exact h.withBuffer (bits := []) (Nat.zero_le _)
  | bwPut n => exact h.append hu
  | bwBit b => exact h.append hu
  | bwSeg mode => obtain ⟨-, -, -, hu⟩ := bwSegBody_eq_ok.mp hu; exact h.append hu
  | bwFin => exact h.bwFin hu
  | mxClr => exact h.mxClr hu
  | mxFnd => exact h.mxFnd hu
  | mxAln => exact h.mxAln hu
  | mxTim => exact h.mxTim hu
  | mxFmt m trial => exact h.mxFmt hu
  | mxVer trial => exact h.mxVer hu
  | mxMap m => exact h.mxMap hu
  | mxBuild m trial => exact h.mxBuild hu
  | mxPen => obtain ⟨-, -, rfl⟩ := mxPenBody_eq_ok.mp hu; exact h.setScore _
  | mxSel => exact h.mxSel hu
  | qBuild => exact h.qBuild hu

end State.DataOk
end

end Sys2Proof.Machine
end

section
/-!
PROOFS. Every step keeps the invariant: the engine's step by what every command keeps (`State.DataOk.commandBody`) and by the
frame of its end, the host's by one rule for each input.
-/

namespace Sys2Proof.Machine

variable {s t : State}

/-! ## The engine's step -/

/-- What a command that completes leaves alone of what the invariant speaks of (R13). -/
theorem commandBody_control {i : Instr} {u : State} (hu : commandBody i s = .ok u) :
    u.rstN = s.rstN ∧ u.errinfo0 = s.errinfo0 ∧ u.errinfo1 = s.errinfo1 ∧ u.errcmd = s.errcmd := by
  rw [commandBody_writesOnly hu]
  exact ⟨rfl, rfl, rfl, rfl⟩

theorem errorBase_rstN (i : Instr) (s : State) : (errorBase i s).rstN = s.rstN := by
  rw [errorBase_writesOnly i s]
  rfl

/-- A normal end of an error-free engine out of reset meets the invariant. -/
theorem State.DataOk.normalEnd_inv (h : s.DataOk) (hrst : s.rstN = true)
    (hregs : s.errinfo0 = 0#32 ∧ s.errinfo1 = 0#32 ∧ s.errcmd = 0#32) : s.normalEnd.Inv :=
  { h with
    bitlen := fun _ => h.bitlen, cwlen := fun _ => h.cwlen, modcnt := fun _ => h.modcnt,
    grid_symbol := fun _ => h.grid_symbol, error_registers := fun _ => hregs,
    busy_ready := by simp, idle_delay := fun _ => rfl, held := by simp [hrst] }

/-- An error end meets the invariant: it asks nothing of the locations a composed command may have left unspecified. -/
theorem State.Bounded.errorEnd_inv (h : s.Bounded) (hrst : s.rstN = true) (e : EngineError) : (s.errorEnd e).Inv :=
  have herr : ¬ (s.errorEnd e).ErrorFree := e.code_ne_none
  { h with
    bitlen := (absurd · herr), cwlen := (absurd · herr), modcnt := (absurd · herr), grid_symbol := (absurd · herr),
    error_registers := (absurd · herr), busy_ready := by simp, idle_delay := fun _ => rfl, held := by simp [hrst] }

theorem State.Inv.exec {i : Instr} (h : s.Inv) (hready : s.Ready) (ht : exec i s = .next t) : t.Inv := by
  obtain ⟨hrst, -, herr⟩ := hready
  obtain ⟨u, hu, rfl⟩ | ⟨e, -, rfl⟩ := exec_cases ht
  · obtain ⟨hurst, h0, h1, hcmd⟩ := commandBody_control hu
    refine ((h.dataOk herr).commandBody hu).normalEnd_inv (hurst.trans hrst) ?_
    rw [h0, h1, hcmd]
    exact h.error_registers herr
  · exact (h.bounded.errorBase i).errorEnd_inv ((errorBase_rstN i s).trans hrst) e

/-! ## The host's inputs -/

/-- The reset values meet the invariant, at either level of the pin (R251, R253). -/
theorem State.engineReset_inv (s : State) : s.engineReset.Inv where
  stage_wf := rfl
  ecc_wf := rfl
  cw_wf := rfl
  stage_range := rfl
  cw_range := rfl
  grid_wf := rfl
  grid_range := rfl
  polys := by rw [State.engineReset_p]; decide +kernel
  bb_length := Nat.zero_le _
  bitlen _ := rfl
  cwlen _ := Nat.zero_le _
  modcnt _ := rfl
  grid_symbol _ := rfl
  error_registers _ := ⟨rfl, rfl, rfl⟩
  busy_ready hbusy := by cases hbusy
  idle_delay _ := rfl
  held _ := rfl

namespace State.Inv

/-- The input list, the value last read, the count of draws and, while a command is pending, the schedule counter are in no
clause of the invariant. -/
theorem observe (h : s.Inv) (inputs : List Input) (rdata : Word) {delay : Nat} (freeCount : Nat)
    (hdelay : s.status.busy = false → delay = 0) :
    ({ s with inputs := inputs, rdata := rdata, delay := delay, freeCount := freeCount }).Inv :=
  { h with
    idle_delay := hdelay
    held := fun hrst => by
      have hheld : s = s.engineReset := h.held hrst
      have hidle : s.status.busy = false := by rw [hheld]; rfl
      rw [hdelay hidle, hheld]
      rfl }

theorem hostRead (h : s.Inv) (loc : Location) : (s.hostRead loc).Inv := by
  obtain ⟨-, hread⟩ | ⟨-, hread⟩ := s.hostRead_cases loc
  · rw [hread]
    exact h.observe s.inputs _ _ h.idle_delay
  · rw [hread]
    exact h.observe s.inputs _ s.freeCount h.idle_delay

theorem dropWrite (h : s.Inv) (hrst : s.rstN = true) : s.dropWrite.Inv :=
  { h with held := by simp [hrst] }

theorem acceptCommand (h : s.Inv) (hrst : s.rstN = true) (herr : s.ErrorFree) (w : Word) : (s.acceptCommand w).Inv :=
  { h with busy_ready := fun _ => ⟨hrst, rfl, herr⟩, idle_delay := by simp, held := by simp [hrst] }

theorem idleWrite (h : s.Inv) (hrst : s.rstN = true) {loc : Location} (w : Word)
    (hstage : ∀ a, loc = .stage a → a < 8192) : (s.idleWrite loc w).Inv := by
  have hheld {P : Prop} : s.rstN = false → P := by simp [hrst]
  cases loc with
  | ctrl =>
    rw [State.idleWrite]
    split
    · exact s.engineReset_inv
    · exact { h with held := hheld }
  | status => exact { h with held := hheld }
  | cmd =>
    rw [State.idleWrite]
    split
    next herr => exact h.acceptCommand hrst herr w
    next => exact h.dropWrite hrst
  | stage a =>
    exact { h with
      stage_wf := Memory.wf_write _ _ _ h.stage_wf
      stage_range := Memory.within_write h.stage_range (hstage a rfl)
      held := hheld }
  | arg0 | arg1 | version | eclevel | blkcnt | alncnt | alntab a | blktab a => exact { h with held := hheld }
  | _ => exact h

theorem hostWrite (h : s.Inv) {loc : Location} (w : Word) (hstage : ∀ a, loc = .stage a → a < 8192) :
    (s.hostWrite loc w).Inv := by
  obtain ⟨-, hw⟩ | ⟨hrst, ⟨-, hw⟩ | hw | ⟨-, hw⟩⟩ := s.hostWrite_cases loc w <;> rw [hw]
  · exact h
  · exact s.engineReset_inv
  · exact h.dropWrite hrst
  · exact h.idleWrite hrst w hstage

theorem perform {i : Input} (h : s.Inv) (ht : s.perform i = .next t) : t.Inv := by
  obtain ⟨loc, rfl⟩ | ⟨loc, w, hstage, rfl⟩ | ⟨inputs, rfl⟩ | ⟨level, rfl⟩ := State.perform_cases ht
  · exact h.hostRead loc
  · exact h.hostWrite w hstage
  · have hread := h.hostRead .status
    exact hread.observe inputs _ (s.hostRead .status).freeCount hread.idle_delay
  · exact State.engineReset_inv _

end State.Inv

/-! ## Every step -/

/-- Settles O19: the engine's step by what its command keeps, the host's by what its input keeps; an input that lands in an
idle engine leaves the schedule counter at 0. -/
theorem stepKeepsTheInvariant : Obligations.StepKeepsTheInvariant := by
  unfold Obligations.StepKeepsTheInvariant
  intro s t h ht
  obtain ⟨hmoves, ⟨i, -, hi⟩ | rfl⟩ | ⟨-, rfl | ⟨i, rest, -, hi⟩⟩ := step_cases ht
  · exact h.exec (h.busy_ready (s.engineMoves_iff.mp hmoves).2.1) hi
  · exact h.bounded.errorEnd_inv (s.engineMoves_iff.mp hmoves).1 _
  · exact h
  · refine State.Inv.perform (h.observe rest s.rdata s.freeCount fun hidle => ?_) hi
    rw [h.idle_delay hidle]

end Sys2Proof.Machine
end

section
/-!
PROOFS. ECC stays inside its CW_MAX bytes: a block stores exactly the correction codewords its descriptor gives, at its own
place among those of all blocks (R171, R175).
-/

namespace Sys2Proof.Machine

open Sys2Proof.Claims

variable {s t u : State}

/-! ## The commands that write ECC -/

/-- The correction codewords of a table that passes R172's checks fit in CW_MAX bytes. -/
theorem checkCodewords_le (h : s.checkBlocks = .ok s.blocks) : checkCodewords s.blocks ≤ 4096 := by
  obtain ⟨-, -, -, hvalid, htotal⟩ := s.checkBlocks_eq_ok.mp h
  have hsum := dataCodewords_add_checkCodewords hvalid
  omega

theorem storeBlockEcc_within {bs : List Block} (hbs : checkCodewords bs ≤ 4096) (h : s.ecc.within 4096 = true) (k : Nat) :
    (s.storeBlockEcc bs k).ecc.within 4096 = true := by
  refine Memory.within_writeBytes h ?_
  rw [length_correctionCodewords]
  exact (checkOffset_add_le bs k).trans hbs

theorem rsBlockBody_ecc_within {k : BitVec 8} (h : s.ecc.within 4096 = true) (hu : rsBlockBody k s = .ok u) :
    u.ecc.within 4096 = true := by
  obtain ⟨hchecks, -, rfl⟩ := (rsBlockBody_eq_ok s).mp hu
  exact storeBlockEcc_within (checkCodewords_le hchecks) h _

theorem foldl_storeBlockEcc_within {bs : List Block} (hbs : checkCodewords bs ≤ 4096) (ks : List Nat)
    (h : s.ecc.within 4096 = true) : (ks.foldl (fun t k => t.storeBlockEcc bs k) s).ecc.within 4096 = true := by
  induction ks generalizing s with
  | nil => exact h
  | cons k ks ih => exact ih (storeBlockEcc_within hbs h k)

theorem rsAllBody_ecc_within (h : s.ecc.within 4096 = true) (hu : rsAllBody s = .ok u) : u.ecc.within 4096 = true := by
  obtain ⟨hchecks, rfl⟩ := rsAllBody_eq_ok.mp hu
  exact foldl_storeBlockEcc_within (checkCodewords_le hchecks) _ h

/-- Of Q.BUILD's four parts only RS.ALL writes ECC. -/
theorem qBuildBody_ecc_within (h : s.ecc.within 4096 = true) (hu : qBuildBody s = .ok u) : u.ecc.within 4096 = true := by
  obtain ⟨s1, s2, s3, h1, h2, h3, h4⟩ := qBuildBody_ok hu
  have hfin : s1.ecc = s.ecc := by obtain ⟨-, -, rfl⟩ := bwFinBody_eq_ok.mp h1; rfl
  have hilv : s3.ecc = s2.ecc := by obtain ⟨-, rfl⟩ := cwIlvBody_eq_ok.mp h3; rfl
  have hsel : u.ecc = s3.ecc := by rw [mxSelBody_frame h4]
  rw [hsel, hilv]
  exact rsAllBody_ecc_within (hfin ▸ h) h2

/-! ## Every step -/

theorem commandBody_ecc_within {i : Instr} (h : s.ecc.within 4096 = true) (hu : commandBody i s = .ok u) :
    u.ecc.within 4096 = true := by
  cases hi : writesEcc i with
  | false =>
    rw [commandBody_writesOnly hu, State.takeWrites_ecc hi]
    exact h
  | true =>
    cases i
    case rsBlock k => exact rsBlockBody_ecc_within h hu
    case rsAll => exact rsAllBody_ecc_within h hu
    case qBuild => exact qBuildBody_ecc_within h hu
    all_goals cases hi

/-- Q.BUILD's error draws the 4096 bytes of ECC and no more (R37, log 4). -/
theorem errorBase_ecc_within {i : Instr} (h : s.ecc.within 4096 = true) : (errorBase i s).ecc.within 4096 = true := by
  cases i
  case qBuild =>
    rw [errorBase, State.drawSymbol_ecc]
    exact Memory.within_ofFn _ le_rfl
  all_goals exact h

theorem exec_ecc_within {i : Instr} (h : s.ecc.within 4096 = true) (ht : exec i s = .next t) :
    t.ecc.within 4096 = true := by
  obtain ⟨u, hu, rfl⟩ | ⟨e, -, rfl⟩ := exec_cases ht
  · rw [State.normalEnd_ecc]
    exact commandBody_ecc_within h hu
  · rw [State.errorEnd_ecc]
    exact errorBase_ecc_within h

/-- A host input leaves ECC, or empties it by a reset. -/
theorem perform_ecc {i : Input} (ht : s.perform i = .next t) : t.ecc = s.ecc ∨ t.ecc = [] := by
  have hread (loc : Location) : (s.hostRead loc).ecc = s.ecc := by
    obtain ⟨-, h⟩ | ⟨-, h⟩ := s.hostRead_cases loc <;> rw [h]
    rfl
  obtain ⟨loc, rfl⟩ | ⟨loc, w, -, rfl⟩ | ⟨inputs, rfl⟩ | ⟨level, rfl⟩ := State.perform_cases ht
  · exact .inl (hread loc)
  · obtain ⟨-, hw⟩ | ⟨-, ⟨-, hw⟩ | hw | ⟨-, hw⟩⟩ := s.hostWrite_cases loc w <;> rw [hw]
    · exact .inl rfl
    · exact .inr rfl
    · exact .inl rfl
    · exact (s.idleWrite_ecc loc w).imp_right fun hreset => by rw [hreset]; rfl
  · exact .inl (hread .status)
  · exact .inr rfl

/-- Settles O20: a command stores its correction codewords among those of the table, a draw fills ECC and no more, and a
host input leaves ECC or empties it. -/
theorem stepKeepsEccInRange : Obligations.StepKeepsEccInRange := by
  unfold Obligations.StepKeepsEccInRange
  intro s t _ h ht
  obtain ⟨-, ⟨i, -, hi⟩ | rfl⟩ | ⟨-, rfl | ⟨i, rest, -, hi⟩⟩ := step_cases ht
  · exact exec_ecc_within h hi
  · exact h
  · exact h
  · obtain hecc | hecc := perform_ecc hi <;> rw [hecc]
    · exact h
    · rfl

end Sys2Proof.Machine
end

section
/-!
PROOFS. The byte view of the bit buffer (R36), and what the port shows of every state (R25, R63, R64).
-/

namespace Sys2Proof.Machine

open Sys2Proof.Claims

/-! ## The byte view of the bit buffer -/

/-- R36: eight bits of the buffer from `8 k` on, 0 past its end. -/
theorem getD_eight_bits (bb : List Bool) (k : Nat) {j : Nat} (hj : j < 8) :
    (((bb.drop (8 * k)).take 8) ++ List.replicate (8 - ((bb.drop (8 * k)).take 8).length) false).getD j false
      = bb.getD (8 * k + j) false := by
  by_cases h : 8 * k + j < bb.length
  · have hin : j < ((bb.drop (8 * k)).take 8).length := by
      rw [List.length_take, List.length_drop]
      omega
    rw [List.getD_append _ _ _ _ hin]
    simp [List.getD_eq_getElem?_getD, hj]
  · have hout : ((bb.drop (8 * k)).take 8).length ≤ j := by
      rw [List.length_take, List.length_drop]
      omega
    rw [List.getD_append_right _ _ _ _ hout, List.getD_eq_getElem?_getD, List.getElem?_getD_replicate_default_eq,
      List.getD_eq_default _ _ (by omega)]

theorem getLsbD_bbByte (bb : List Bool) (k : Nat) {j : Nat} (hj : j < 8) :
    (bbByte bb k).getLsbD (7 - j) = bb.getD (8 * k + j) false := by
  rw [← getD_eight_bits bb k hj, bbByte]
  generalize hbits : ((bb.drop (8 * k)).take 8) ++ List.replicate _ false = bits
  have hlen : bits.length = 8 := by
    rw [← hbits]
    simp
  rw [BitVec.getLsbD_ofNat, decide_eq_true (by omega : 7 - j < 8), Bool.true_and, testBit_numberOfBits,
    List.getD_eq_getElem?_getD, List.getElem?_reverse (by omega), hlen, show 8 - 1 - (7 - j) = j by omega,
    List.getD_eq_getElem?_getD]

/-- Settles O34: a byte of the view is the number of eight bits, a field is the number of its own. -/
theorem byteViewAndFieldBits : Obligations.ByteViewAndFieldBits := by
  unfold Obligations.ByteViewAndFieldBits
  exact ⟨fun bb k j => getLsbD_bbByte bb k, fun v n => ⟨length_bitsMsbFirst v n, numberOfBits_bitsMsbFirst v n⟩⟩

/-! ## The windows -/

section
variable (s : State)

@[simp] theorem toNat_byteWord (b : Byte) : (byteWord b).toNat = b.toNat :=
  BitVec.toNat_setWidth_of_le (by decide)

theorem view_plen (i : PReg) : s.view (.plen i.val) = Word.ofNat (s.poly i).length := by
  simp [State.view, State.poly]

/-- R63: POLY shows a register's coefficients, and 0 past its length. -/
theorem view_poly (i : PReg) (j : Nat) : s.view (.poly i.val j) = byteWord ((s.poly i).getD j 0#8) := by
  simp [State.view, State.poly]

/-- R36: bit 7 - j of a word of the BB window is bit j of the byte it shows. -/
theorem getLsbD_view_bb (w : Nat) {j : Nat} (hj : j < 8) :
    (s.view (.bb w)).getLsbD (7 - j) = s.bb.getD (8 * w + j) false := by
  rw [← getLsbD_bbByte s.bb w hj, State.view, byteWord, BitVec.getLsbD_setWidth,
    decide_eq_true (by omega : 7 - j < 32), Bool.true_and]

/-- R63: a cell of the symbol shows its code. -/
theorem view_grid {r c : Nat} (h : r < dim s ∧ c < dim s) (hr : r < 177) (hc : c < 177) :
    s.view (.grid r c) = (moduleCode (s.grid.get r c)).setWidth 32 := by
  obtain ⟨hout, -⟩ | ⟨-, -, hcell⟩ | ⟨-, hnone, -⟩ := s.gridWord_cases r c
  · exact absurd h hout
  · exact hcell
  · exact absurd ⟨hr, hc⟩ hnone

theorem view_grid_outside {r c : Nat} (h : ¬ (r < dim s ∧ c < dim s)) : s.view (.grid r c) = 0#32 := if_neg h

end

/-- Settles O60: a register by definition, an element of a window by the width it keeps in a word, a byte of BB by the byte
view, a cell by its code. -/
theorem windowsShowTheState : Obligations.WindowsShowTheState := by
  unfold Obligations.WindowsShowTheState
  intro s
  have narrow {n : Nat} (v : BitVec n) (hn : n ≤ 32) : (v.setWidth 32).toNat = v.toNat := BitVec.toNat_setWidth_of_le hn
  refine ⟨⟨rfl, rfl, rfl, rfl, rfl, rfl, rfl, rfl, rfl⟩,
    ⟨narrow _ (by decide), narrow _ (by decide), narrow _ (by decide), narrow _ (by decide), rfl, rfl, rfl,
      narrow _ (by decide)⟩,
    ⟨rfl, rfl, rfl, rfl, rfl, rfl, fun m => by simp [State.view]⟩, ⟨rfl, rfl, rfl⟩, ?poly,
    ⟨fun w => by simp [State.view], fun w => by simp [State.view]⟩,
    fun w => ⟨toNat_byteWord _, toNat_byteWord _, toNat_byteWord _⟩,
    fun w => ⟨?byte, fun j => getLsbD_view_bb s w⟩, fun r c => ⟨fun h hr hc => ?cell, view_grid_outside s⟩⟩
  case poly =>
    refine fun i => ⟨view_plen s i, fun j => ⟨fun h => ?_, fun h => ?_⟩⟩
    · rw [view_poly, List.getD_eq_getElem _ _ h, toNat_byteWord]
    · rw [view_poly, List.getD_eq_default _ _ h]
      rfl
  case byte => exact (toNat_byteWord _).trans_lt (BitVec.isLt _)
  case cell =>
    rw [view_grid s h hr hc]
    cases s.grid.get r c <;> rfl

end Sys2Proof.Machine
end

section
/-!
PROOFS. The host's view of the engine: whose turn a step is (O5), the layout of STATUS and CTRL and the writes to them (O11),
and that a read changes nothing and a write only its own location (O13).
-/

namespace Sys2Proof.Machine

open Sys2Proof.Claims

/-! ## Steps -/

section
variable {s : State}

theorem step_of_decode (hmoves : s.engineMoves = true) {i : Instr} (hd : decode s.cmd = .ok i) : step s = exec i s := by
  rw [step_engineMoves s hmoves, State.pending, hd]

theorem step_of_no_input (hmoves : s.engineMoves = false) (hin : s.inputs = []) : step s = .next s := by
  rw [step_input s hmoves, State.inputStep, hin]

theorem step_of_input (hmoves : s.engineMoves = false) {i : Input} {rest : List Input} (hin : s.inputs = i :: rest) :
    step s = State.perform { s with inputs := rest, delay := s.delay - 1 } i := by
  rw [step_input s hmoves, State.inputStep, hin]

/-- R231: an idle, error-free engine accepts the word written to CMD, at 0x0000C. -/
theorem perform_cmdWrite (hrst : s.rstN = true) (hbusy : s.status.busy = false) (herr : s.ErrorFree) (w : Word) :
    s.perform (.write 4 0x0000C#20 w) = .next (s.acceptCommand w) := by
  have hloc : locate (0x0000C#20).toNat = .cmd := by decide
  rw [State.perform, if_pos (by decide), hloc, State.hostWrite_idle hrst hbusy, State.idleWrite, if_pos herr]

/-- Settles O5: the engine's turn and the host's, and the acceptance of a CMD write. -/
theorem stepRunsTheDecodedCommand : Obligations.StepRunsTheDecodedCommand := by
  unfold Obligations.StepRunsTheDecodedCommand
  refine ⟨fun s i hrst hbusy hturn hd => step_of_decode (s.engineMoves_iff.mpr ⟨hrst, hbusy, hturn⟩) hd,
    fun s => step_of_no_input, fun s i rest hmoves hin => step_of_input hmoves hin, fun s w rest hrst hbusy herr hin => ?_⟩
  have hmoves : s.engineMoves = false := by simp [State.engineMoves, hbusy]
  exact ⟨Config.stepDelay s.freeCount, (step_of_input hmoves hin).trans
    (perform_cmdWrite (s := { s with inputs := rest, delay := s.delay - 1 }) hrst hbusy herr w)⟩

end

/-! ## STATUS and CTRL -/

/-- R27: BUSY bit 0, DONE bit 1, DROP bit 2, ERR bits 11:8, every other bit 0: eight codes, three flags. -/
theorem Status.word_layout (st : Status) :
    st.word.getLsbD 0 = st.busy ∧ st.word.getLsbD 1 = st.done ∧ st.word.getLsbD 2 = st.drop ∧
      st.word.extractLsb' 8 4 = st.err.code ∧ st.word.extractLsb' 3 5 = 0#5 ∧ st.word.extractLsb' 12 20 = 0#20 := by
  obtain ⟨busy, done, drop, err⟩ := st
  cases err
  all_goals
    revert busy done drop
    decide +kernel

/-- R26: SRST bit 0 reads 0, IE_DONE bit 1, IE_ERR bit 2, every other bit 0. -/
theorem State.ctrlWord_layout (s : State) :
    s.ctrlWord.getLsbD 0 = false ∧ s.ctrlWord.getLsbD 1 = s.ieDone ∧ s.ctrlWord.getLsbD 2 = s.ieErr ∧
      s.ctrlWord.extractLsb' 3 29 = 0#29 := by
  unfold State.ctrlWord
  generalize s.ieDone = done, s.ieErr = err
  revert done err
  decide +kernel

theorem State.irq_iff (s : State) :
    s.irq = true ↔ (s.ieDone = true ∧ s.status.done = true) ∨ (s.ieErr = true ∧ ¬ s.ErrorFree) := by
  simp [State.irq]

/-- A write to an idle engine leaves ERR, or is a soft reset (R236, R242). -/
theorem State.idleWrite_err (s : State) {loc : Location} {w : Word} (hsoft : ¬ (loc = .ctrl ∧ w.getLsbD 0 = true)) :
    (s.idleWrite loc w).status.err = s.status.err := by
  cases loc
  case ctrl =>
    rw [State.idleWrite, if_neg fun hw => hsoft ⟨rfl, hw⟩]
  case cmd =>
    rw [State.idleWrite]
    split <;> rfl
  all_goals rfl

/-- No host write but a soft reset changes ERR (R242). -/
theorem State.hostWrite_err (s : State) {loc : Location} {w : Word} (hsoft : ¬ (loc = .ctrl ∧ w.getLsbD 0 = true)) :
    (s.hostWrite loc w).status.err = s.status.err := by
  obtain ⟨-, hw⟩ | ⟨-, ⟨hw, -⟩ | hw | ⟨-, hw⟩⟩ := s.hostWrite_cases loc w
  · rw [hw]
  · exact absurd hw hsoft
  · rw [hw]
    rfl
  · rw [hw, s.idleWrite_err hsoft]

/-- Settles O11: the layouts of the two registers, and the writes an idle engine performs on them. -/
theorem statusWordAndInterrupt : Obligations.StatusWordAndInterrupt := by
  unfold Obligations.StatusWordAndInterrupt
  intro s
  obtain ⟨hbusy, hdone, hdrop, herr, hlow, hhigh⟩ := s.status.word_layout
  obtain ⟨hsrst, hieDone, hieErr, hctrl⟩ := s.ctrlWord_layout
  exact ⟨hbusy, hdone, hdrop, herr, hlow, hhigh, s.irq_iff, fun w hrst hidle => State.hostWrite_idle hrst hidle _ w,
    fun loc w => s.hostWrite_err, hsrst, hieDone, hieErr, hctrl, fun w hrst => State.hostWrite_softReset hrst,
    fun w hrst hidle hw => by rw [State.hostWrite_idle hrst hidle, State.idleWrite, if_neg (Bool.eq_false_iff.mp hw)]⟩

/-! ## Reads and writes -/

/-- R69: a read has no side effects. -/
theorem view_hostRead (s : State) (loc loc' : Location) : (s.hostRead loc).view loc' = s.view loc' := by
  obtain ⟨-, h⟩ | ⟨-, h⟩ := s.hostRead_cases loc
  · rw [h]
    cases loc' <;> rfl
  · rw [h]
    cases loc' <;> rfl

theorem State.hostRead_idle {s : State} (hrst : s.rstN = true) (hbusy : s.status.busy = false) (loc : Location) :
    s.hostRead loc = { s with rdata := s.view loc } := by
  simp [State.hostRead, hrst, hbusy]

/-- R64: the low k bits of a word written stand in the low bits of the word read. -/
theorem setWidth_setWidth_eq_mod (w : Word) {k : Nat} (hk : k ≤ 32) :
    (w.setWidth k).setWidth 32 = BitVec.ofNat 32 (w.toNat % 2 ^ k) := by
  have hlow : w.toNat % 2 ^ k < 2 ^ 32 := (Nat.mod_le _ _).trans_lt w.isLt
  apply BitVec.eq_of_toNat_eq
  rw [BitVec.toNat_setWidth_of_le hk, BitVec.toNat_setWidth, BitVec.toNat_ofNat, Nat.mod_eq_of_lt hlow]

theorem getD_setIfInBounds_same {α : Type} {n : Nat} (v : Vector α n) {a : Nat} (ha : a < n) (x d : α) :
    (v.setIfInBounds a x).toList.getD a d = x := by
  simp [List.getD_eq_getElem?_getD, ha]

theorem getD_setIfInBounds_other {α : Type} {n : Nat} (v : Vector α n) {a b : Nat} (hab : a ≠ b) (x d : α) :
    (v.setIfInBounds a x).toList.getD b d = v.toList.getD b d := by
  simp [List.getD_eq_getElem?_getD, hab]

section
variable (s : State) {loc : Location} {k : Nat}

/-- A write to a writable location is read back there (R64). -/
theorem view_idleWrite_same (w : Word) (hk : writable loc = some k) :
    (s.idleWrite loc w).view loc = BitVec.ofNat 32 (w.toNat % 2 ^ k) := by
  have hlow : k ≤ 32 → (w.setWidth k).setWidth 32 = BitVec.ofNat 32 (w.toNat % 2 ^ k) := setWidth_setWidth_eq_mod w
  cases loc with
  | arg0 | arg1 =>
    obtain rfl := Option.some.inj hk
    rw [← hlow le_rfl, BitVec.setWidth_eq]
    rfl
  | version | eclevel | blkcnt | alncnt =>
    obtain rfl := Option.some.inj hk
    exact hlow (by decide)
  | alntab a =>
    obtain ⟨ha, hk⟩ := Option.ite_none_right_eq_some.mp hk
    obtain rfl := Option.some.inj hk
    rw [← hlow (by decide)]
    exact congrArg byteWord (getD_setIfInBounds_same s.alntab ha _ _)
  | blktab a =>
    obtain ⟨ha, hk⟩ := Option.ite_none_right_eq_some.mp hk
    obtain rfl := Option.some.inj hk
    rw [← hlow le_rfl, BitVec.setWidth_eq]
    exact getD_setIfInBounds_same s.blktab ha w 0#32
  | stage a =>
    obtain ⟨-, hk⟩ := Option.ite_none_right_eq_some.mp hk
    obtain rfl := Option.some.inj hk
    rw [← hlow (by decide)]
    exact congrArg byteWord (Memory.read_write_same s.stage a _)
  | _ => cases hk

/-- A write to a writable location moves no other (R69): every location but those of the memory written reads a field the
write leaves alone, and of that memory another word. -/
theorem view_idleWrite_other (w : Word) (hk : writable loc = some k) {loc' : Location} (hne : loc' ≠ loc) :
    (s.idleWrite loc w).view loc' = s.view loc' := by
  cases loc with
  | arg0 | arg1 | version | eclevel | blkcnt | alncnt =>
    cases loc' <;> try rfl
    exact absurd rfl hne
  | alntab a =>
    cases loc' <;> try rfl
    next b =>
      have hab : a ≠ b := fun h => hne (by rw [h])
      exact congrArg byteWord (getD_setIfInBounds_other s.alntab hab _ _)
  | blktab a =>
    cases loc' <;> try rfl
    next b =>
      have hab : a ≠ b := fun h => hne (by rw [h])
      exact getD_setIfInBounds_other s.blktab hab w 0#32
  | stage a =>
    cases loc' <;> try rfl
    next b =>
      have hab : a ≠ b := fun h => hne (by rw [h])
      exact congrArg byteWord (Memory.read_write_other s.stage a b _ hab)
  | _ => cases hk

end

/-- Settles O13: a read records one word, a write to a writable location stores its low bits there alone. -/
theorem portReadsAndWrites : Obligations.PortReadsAndWrites := by
  unfold Obligations.PortReadsAndWrites
  refine ⟨view_hostRead, fun s loc hrst hbusy => State.hostRead_idle hrst hbusy loc,
    fun s loc w k hrst hbusy hk => ?_⟩
  rw [State.hostWrite_idle hrst hbusy]
  exact ⟨view_idleWrite_same s w hk, fun loc' => view_idleWrite_other s w hk⟩

end Sys2Proof.Machine
end

section
/-!
PROOFS. The edges of the host port: what a busy engine and an engine in error answer (O8), and which host accesses a
step refuses (O17).
-/

namespace Sys2Proof.Machine

open Sys2Proof.Claims

/-! ## A busy engine -/

section
variable {s : State} {loc : Location}

theorem Location.readableBusy_iff : loc.readableBusy = true ↔ loc = .id ∨ loc = .ctrl ∨ loc = .status := by
  cases loc <;> simp [Location.readableBusy]

theorem State.hostRead_readable (hrst : s.rstN = true) (hloc : loc.readableBusy = true) :
    s.hostRead loc = { s with rdata := s.view loc } := by
  simp [State.hostRead, hrst, hloc]

theorem State.hostRead_unreadable (hrst : s.rstN = true) (hbusy : s.status.busy = true)
    (hloc : ¬ loc.readableBusy = true) : s.hostRead loc = s.readFree := by
  simp [State.hostRead, hrst, hbusy, hloc]

/-- R67, R236: every write to a busy engine but the soft reset is dropped. -/
theorem State.hostWrite_dropped (hrst : s.rstN = true) (hbusy : s.status.busy = true) {w : Word}
    (hsoft : ¬ (loc = .ctrl ∧ w.getLsbD 0 = true)) : s.hostWrite loc w = drop s := by
  rw [State.hostWrite_busy hrst hbusy, State.busyWrite, if_neg hsoft]
  rfl

end

/-! ## An engine in error -/

/-- `s` with another error code in STATUS. -/
def State.withErr (s : State) (e : ErrCode) : State := { s with status := { s.status with err := e } }

theorem State.idleWrite_cmd_inError {s : State} (herr : ¬ s.ErrorFree) (w : Word) : s.idleWrite .cmd w = drop s :=
  if_neg herr

/-- No write but one to CMD looks at ERR, and none but a soft reset changes it (R67, R242). -/
theorem State.idleWrite_withErr (s : State) (e : ErrCode) {loc : Location} {w : Word} (hcmd : loc ≠ .cmd)
    (hsoft : ¬ (loc = .ctrl ∧ w.getLsbD 0 = true)) :
    (s.withErr e).idleWrite loc w = (s.idleWrite loc w).withErr e := by
  cases loc
  case cmd => exact absurd rfl hcmd
  case ctrl =>
    have hw : ¬ w.getLsbD 0 = true := fun hw => hsoft ⟨rfl, hw⟩
    rw [State.idleWrite, State.idleWrite, if_neg hw, if_neg hw]
    rfl
  all_goals rfl

/-- R67, "other accesses behave normally": an idle engine in error performs a write as the same engine without the error
does, and keeps its ERR unless the write resets it. -/
theorem State.hostWrite_inError {s : State} (hrst : s.rstN = true) (hidle : s.status.busy = false) {loc : Location}
    (hcmd : loc ≠ .cmd) (w : Word) :
    s.hostWrite loc w =
      if loc = .ctrl ∧ w.getLsbD 0 = true then (s.withErr .none).hostWrite loc w
      else ((s.withErr .none).hostWrite loc w).withErr s.status.err := by
  split
  next hsoft =>
    obtain ⟨rfl, hw⟩ := hsoft
    have hrst' : (s.withErr .none).rstN = true := hrst
    rw [State.hostWrite_softReset hrst hw, State.hostWrite_softReset hrst' hw]
    rfl
  next hsoft =>
    rw [State.hostWrite_idle hrst hidle, State.hostWrite_idle (s := s.withErr .none) hrst hidle,
      ← State.idleWrite_withErr _ _ hcmd hsoft]
    rfl

/-- Settles O8: a busy engine answers three locations and the soft reset; one in error drops a CMD write and performs
every other access. -/
theorem portWhileBusyOrInError : Obligations.PortWhileBusyOrInError := by
  unfold Obligations.PortWhileBusyOrInError
  intro s loc w hrst
  constructor
  · intro hbusy
    rw [← Location.readableBusy_iff]
    exact ⟨State.hostRead_readable hrst, State.hostRead_unreadable hrst hbusy, State.hostWrite_softReset hrst,
      State.hostWrite_dropped hrst hbusy⟩
  · intro hidle herr
    exact ⟨(State.hostWrite_idle hrst hidle .cmd w).trans (State.idleWrite_cmd_inError herr w),
      State.hostRead_idle hrst hidle loc, fun hcmd => State.hostWrite_inError hrst hidle hcmd w⟩

/-! ## Accesses outside the interface -/

/-- R66: a host access that is not a 32-bit access at a multiple of 4. -/
def Input.Outside (i : Input) : Prop :=
  ∃ (bytes : Nat) (addr : BitVec 20), (i = .read bytes addr ∨ ∃ w, i = .write bytes addr w) ∧
    ¬ (bytes = 4 ∧ addr.toNat % 4 = 0)

theorem insideInterface_iff {bytes : Nat} {addr : BitVec 20} :
    insideInterface bytes addr = true ↔ bytes = 4 ∧ addr.toNat % 4 = 0 := by
  simp [insideInterface]

theorem Input.Outside.perform {i : Input} (h : i.Outside) (s : State) :
    s.perform i = .refused .accessOutsideInterface := by
  obtain ⟨bytes, addr, hi, hout⟩ := h
  rw [← insideInterface_iff] at hout
  obtain rfl | ⟨w, rfl⟩ := hi
  · exact if_neg hout
  · exact if_neg hout

theorem State.perform_next {i : Input} (h : ¬ i.Outside) (s : State) : ∃ t, s.perform i = .next t := by
  cases i with
  | read bytes addr =>
    have hin := not_not.mp fun hout => h ⟨bytes, addr, .inl rfl, hout⟩
    exact ⟨_, if_pos (insideInterface_iff.mpr hin)⟩
  | write bytes addr w =>
    have hin := not_not.mp fun hout => h ⟨bytes, addr, .inr ⟨w, rfl⟩, hout⟩
    exact ⟨_, if_pos (insideInterface_iff.mpr hin)⟩
  | wait | rstLow | rstHigh => exact ⟨_, rfl⟩

/-! ## What a step refuses -/

/-- R231: "the step always ends". -/
theorem exec_next (i : Instr) (s : State) : ∃ t, exec i s = .next t := by
  rw [exec_eq]
  cases commandBody i s with
  | ok u => exact ⟨_, rfl⟩
  | error e => exact ⟨_, rfl⟩

/-- The engine's own steps are never refused: a command ends, and an illegal word is an error of the engine (R237). -/
theorem step_next_of_engineMoves {s : State} (hmoves : s.engineMoves = true) : ∃ t, step s = .next t := by
  rw [step_engineMoves s hmoves]
  cases s.pending with
  | ok i => exact exec_next i s
  | error r => exact ⟨_, rfl⟩

/-- Settles O17: the engine's steps end, and of the host's inputs only an access outside the interface is refused. -/
theorem onlyAccessesOutsideTheInterfaceAreRefused : Obligations.OnlyAccessesOutsideTheInterfaceAreRefused := by
  unfold Obligations.OnlyAccessesOutsideTheInterfaceAreRefused
  intro s
  constructor
  · rintro ⟨hmoves, bytes, addr, rest, hin | ⟨w, hin⟩, hout⟩
    · rw [step_of_input hmoves hin]
      exact Input.Outside.perform ⟨bytes, addr, .inl rfl, hout⟩ _
    · rw [step_of_input hmoves hin]
      exact Input.Outside.perform ⟨bytes, addr, .inr ⟨w, rfl⟩, hout⟩ _
  · intro hnot
    cases hmoves : s.engineMoves with
    | true => exact step_next_of_engineMoves hmoves
    | false =>
      cases hin : s.inputs with
      | nil => exact ⟨s, step_of_no_input hmoves hin⟩
      | cons i rest =>
        have hinside : ¬ i.Outside := by
          rintro ⟨bytes, addr, hi, hout⟩
          exact hnot ⟨hmoves, bytes, addr, rest, by simpa [hin] using hi, hout⟩
        rw [step_of_input hmoves hin]
        exact State.perform_next hinside _

end Sys2Proof.Machine
end

section
/-!
PROOFS. Words, rows and fields: the decoder's extracted fields and the encoder's placed fields fit together (R92, R94),
and a word matches a row of the opcode map exactly when it has the row's OP and its must-be-zero bits are clear (R93, R95).
-/

namespace Sys2Proof

/-! ## Placing what was extracted: the bits of the word that the field covers -/

theorem placed_extractLsb' (at_ n : Nat) (w : Word) :
    placed at_ (w.extractLsb' at_ n) = w &&& placed at_ (BitVec.allOnes n) := by
  refine BitVec.eq_of_getLsbD_eq fun i hi => ?_
  simp only [placed, BitVec.getLsbD_and, BitVec.getLsbD_shiftLeft, BitVec.getLsbD_setWidth, BitVec.getLsbD_extractLsb',
    BitVec.getLsbD_allOnes, hi, decide_true, Bool.true_and]
  by_cases hat : i < at_
  · simp [hat]
  · have hsub : at_ + (i - at_) = i := by omega
    simp [hat, hsub, Bool.and_comm, Bool.and_assoc, Bool.and_left_comm]

theorem ofBool_getLsbD (w : Word) (at_ : Nat) : BitVec.ofBool (w.getLsbD at_) = w.extractLsb' at_ 1 :=
  BitVec.eq_of_getLsbD_eq fun i hi => by
    obtain rfl : i = 0 := by omega
    simp

theorem modeCode_modeField (w : Word) : modeCode (modeField w) = w.extractLsb' 0 2 := by
  unfold modeField
  generalize w.extractLsb' 0 2 = x
  revert x
  decide

@[simp] theorem placed_immLow (n : Nat) (w : Word) : placed 0 (immLow n w) = w &&& (BitVec.allOnes n).setWidth 32 := by
  rw [immLow, placed_extractLsb', placed, BitVec.shiftLeft_zero]

@[simp] theorem placedReg_dField (w : Word) : placedReg 20 (dField w) = w &&& 0x00700000#32 := placed_extractLsb' 20 3 w

@[simp] theorem placedReg_aField (w : Word) : placedReg 16 (aField w) = w &&& 0x00070000#32 := placed_extractLsb' 16 3 w

@[simp] theorem placedReg_bField (w : Word) : placedReg 12 (bField w) = w &&& 0x00007000#32 := placed_extractLsb' 12 3 w

@[simp] theorem placedReg_maskField (w : Word) : placedReg 0 (maskField w) = w &&& 0x00000007#32 :=
  placed_extractLsb' 0 3 w

@[simp] theorem placedBit_getElem_zero (w : Word) : placedBit 0 w[0] = w &&& 0x00000001#32 := by
  rw [placedBit, ← BitVec.getLsbD_eq_getElem, ofBool_getLsbD, placed_extractLsb']
  rfl

@[simp] theorem placedBit_trialField (w : Word) : placedBit 3 (trialField w) = w &&& 0x00000008#32 := by
  rw [placedBit, trialField, ofBool_getLsbD, placed_extractLsb']
  rfl

@[simp] theorem placed_modeCode_modeField (w : Word) : placed 0 (modeCode (modeField w)) = w &&& 0x00000003#32 := by
  rw [modeCode_modeField, placed_extractLsb']
  rfl

/-! ## Extracting what was placed -/

theorem extractLsb'_placed_same {at_ n : Nat} (h : at_ + n ≤ 32) (v : BitVec n) :
    (placed at_ v).extractLsb' at_ n = v := by
  refine BitVec.eq_of_getLsbD_eq fun i hi => ?_
  have hi' : at_ + i < 32 := by omega
  simp [placed, hi, hi']

/-- Fields of R92 do not overlap: a field placed elsewhere leaves this one 0. -/
theorem extractLsb'_placed_other {at_ at' n m : Nat} (h : at_ + n ≤ at' ∨ at' + m ≤ at_) (v : BitVec m) :
    (placed at' v).extractLsb' at_ n = 0#n := by
  refine BitVec.eq_of_getLsbD_eq fun i hi => ?_
  simp only [placed, BitVec.getLsbD_extractLsb', BitVec.getLsbD_shiftLeft, BitVec.getLsbD_setWidth, BitVec.getLsbD_zero]
  obtain hbelow | habove := h
  · simp [show at_ + i < at' by omega]
  · simp [show m ≤ at_ + i - at' by omega]

theorem getElem_placed {m k : Nat} (hk : k < 32) (at_ : Nat) (v : BitVec m) :
    (placed at_ v)[k] = (!decide (k < at_) && v.getLsbD (k - at_)) := by
  simp [placed]

theorem modeField_eq_of_modeCode {w : Word} {mode : SegMode} (h : w.extractLsb' 0 2 = modeCode mode) :
    modeField w = mode := by
  rw [modeField, h]
  cases mode <;> rfl

/-! ## The rows of the opcode map -/

theorem toNat_opField (w : Word) : (opField w).toNat = w.toNat / 2 ^ 24 := by
  have := w.isLt
  simp only [opField, BitVec.extractLsb'_toNat, Nat.shiftRight_eq_div_pow]
  omega

/-- A word is its OP and its low 24 bits (R92). -/
theorem word_eq_iff {v w : Word} :
    v = w ↔ opField v = opField w ∧ v &&& 0x00FFFFFF#32 = w &&& 0x00FFFFFF#32 := by
  have hsplit (u : Word) : u = placed 24 (opField u) ||| (u &&& 0x00FFFFFF#32) := by
    rw [opField, placed_extractLsb', ← BitVec.and_or_distrib_left]
    exact BitVec.and_allOnes.symm
  refine ⟨fun h => h ▸ ⟨rfl, rfl⟩, fun ⟨hop, hlow⟩ => ?_⟩
  rw [hsplit v, hsplit w, hop, hlow]

/-- Every row masks the whole OP, and its match is that OP with nothing below it. -/
theorem opcodeMap_fields :
    ∀ row ∈ opcodeMap, opField row.mask = BitVec.allOnes 8 ∧ row.pattern &&& 0x00FFFFFF#32 = 0#32 := by
  decide

/-- The match of R95 is the decoder's test: the row's OP, and every must-be-zero bit clear (R93). -/
theorem row_matches_iff {row : OpcodeRow} (hrow : row ∈ opcodeMap) {w : Word} :
    w &&& row.mask = row.pattern ↔ opField w = opField row.pattern ∧ fieldsClear w row.mask = true := by
  obtain ⟨hmask, hpattern⟩ := opcodeMap_fields row hrow
  have hop : opField (w &&& row.mask) = opField w := by
    rw [opField, BitVec.extractLsb'_and, ← opField, ← opField, hmask, BitVec.and_allOnes]
  rw [word_eq_iff, hop, hpattern, fieldsClear, beq_iff_eq]

theorem rowGuard_eq_ok {w mask : Word} {i j : Instr} :
    rowGuard w mask i = .ok j ↔ fieldsClear w mask = true ∧ i = j := by
  unfold rowGuard
  split_ifs with h
  · simp [h]
  · simp [h]

end Sys2Proof
end

section
/-!
PROOFS. Encoding and decoding (O1-O4). A command and a word: whether the word matches the command's row, and the command
with its operands read from the word. The decoder answers exactly that command, and the encoder puts exactly those
operands back.
-/

namespace Sys2Proof

open Laws.EncodeRow (rowIndex)

/-! ## The row of a command and its operands -/

/-- R95: "a word w spells the command when `(w & mask) == match`", for the row of `i`, whatever its operands are. -/
def Instr.MatchedBy (i : Instr) (w : Word) : Prop :=
  ∃ row, opcodeMap[rowIndex i]? = some row ∧ w &&& row.mask = row.pattern

/-- The command of the same row as `i`, with the operands that stand in the fields of `w` (R94, R95). -/
def Instr.withOperands (i : Instr) (w : Word) : Instr :=
  match i with
  | .pClr _ => .pClr (dField w)
  | .pLoad _ _ => .pLoad (dField w) (immLow 9 w)
  | .pStore _ => .pStore (aField w)
  | .pShl _ _ _ => .pShl (dField w) (aField w) (immLow 8 w)
  | .pMul _ _ _ => .pMul (dField w) (aField w) (bField w)
  | .pMod _ _ _ => .pMod (dField w) (aField w) (bField w)
  | .pGen _ _ => .pGen (dField w) (immLow 8 w)
  | .rsBlock _ => .rsBlock (immLow 8 w)
  | .bwPut _ => .bwPut (immLow 5 w)
  | .bwBit _ => .bwBit (w.getLsbD 0)
  | .bwSeg _ => .bwSeg (modeField w)
  | .mxFmt _ _ => .mxFmt (maskField w) (trialField w)
  | .mxVer _ => .mxVer (w.getLsbD 0)
  | .mxMap _ => .mxMap (maskField w)
  | .mxBuild _ _ => .mxBuild (maskField w) (trialField w)
  | .nop | .gfExp | .gfLog | .gfMul | .rsAll | .cwIlv | .bwRst | .bwFin | .mxClr | .mxFnd | .mxAln | .mxTim | .mxPen
  | .mxSel | .qBuild => i

section
variable {i : Instr} {w : Word} {row : OpcodeRow}

theorem encode_matches (i : Instr) : i.MatchedBy (encode i) := by
  cases i with
  | nop => exact Laws.EncodeRow.nop
  | gfExp => exact Laws.EncodeRow.gfExp
  | gfLog => exact Laws.EncodeRow.gfLog
  | gfMul => exact Laws.EncodeRow.gfMul
  | pClr d => exact Laws.EncodeRow.pClr d
  | pLoad d len => exact Laws.EncodeRow.pLoad d len
  | pStore a => exact Laws.EncodeRow.pStore a
  | pShl d a n => exact Laws.EncodeRow.pShl d a n
  | pMul d a b => exact Laws.EncodeRow.pMul d a b
  | pMod d a b => exact Laws.EncodeRow.pMod d a b
  | pGen d n => exact Laws.EncodeRow.pGen d n
  | rsBlock k => exact Laws.EncodeRow.rsBlock k
  | rsAll => exact Laws.EncodeRow.rsAll
  | cwIlv => exact Laws.EncodeRow.cwIlv
  | bwRst => exact Laws.EncodeRow.bwRst
  | bwPut n => exact Laws.EncodeRow.bwPut n
  | bwBit b => exact Laws.EncodeRow.bwBit b
  | bwSeg mode => exact Laws.EncodeRow.bwSeg mode
  | bwFin => exact Laws.EncodeRow.bwFin
  | mxClr => exact Laws.EncodeRow.mxClr
  | mxFnd => exact Laws.EncodeRow.mxFnd
  | mxAln => exact Laws.EncodeRow.mxAln
  | mxTim => exact Laws.EncodeRow.mxTim
  | mxFmt m trial => exact Laws.EncodeRow.mxFmt m trial
  | mxVer trial => exact Laws.EncodeRow.mxVer trial
  | mxMap m => exact Laws.EncodeRow.mxMap m
  | mxBuild m trial => exact Laws.EncodeRow.mxBuild m trial
  | mxPen => exact Laws.EncodeRow.mxPen
  | mxSel => exact Laws.EncodeRow.mxSel
  | qBuild => exact Laws.EncodeRow.qBuild

theorem opField_of_matchedBy (h : i.MatchedBy w) :
    ∃ row, opcodeMap[rowIndex i]? = some row ∧ opField w = opField row.pattern ∧ fieldsClear w row.mask = true := by
  obtain ⟨row, hrow, hmatch⟩ := h
  exact ⟨row, hrow, (row_matches_iff (List.mem_of_getElem? hrow)).mp hmatch⟩

theorem matchedBy_of_opField (hrow : opcodeMap[rowIndex i]? = some row)
    (hop : (opField w).toNat = (opField row.pattern).toNat) (hclear : fieldsClear w row.mask = true) : i.MatchedBy w :=
  ⟨row, hrow, (row_matches_iff (List.mem_of_getElem? hrow)).mpr ⟨BitVec.eq_of_toNat_eq hop, hclear⟩⟩

/-- R96 bounds P.LOAD's length and no other operand. -/
theorem wellFormed_withOperands_iff (hrow : opcodeMap[rowIndex i]? = some row) :
    (i.withOperands w).WellFormed ↔ (row.mnemonic = "P.LOAD" → 1 ≤ w.toNat % 512 ∧ w.toNat % 512 ≤ 256) := by
  have hlen : (immLow 9 w).toNat = w.toNat % 512 := by simp [immLow]
  cases i
  case pLoad d len =>
    cases hrow
    simp [Instr.withOperands, Instr.WellFormed, legalLength, hlen]
  all_goals
    cases hrow
    simp [Instr.withOperands]

/-! ## The encoder and the operands -/

/-- The operand fields of R94, read back from the word that the encoder fills. -/
theorem withOperands_encode (i : Instr) : i.withOperands (encode i) = i := by
  cases i
  case bwSeg mode =>
    exact congrArg Instr.bwSeg (modeField_eq_of_modeCode (by
      rw [encode, BitVec.extractLsb'_or, extractLsb'_placed_same (by decide)]
      exact BitVec.zero_or))
  all_goals
    simp [Instr.withOperands, encode, dField, aField, bField, immLow, maskField, trialField, placedReg, placedBit,
      BitVec.extractLsb'_or, extractLsb'_placed_same, extractLsb'_placed_other, getElem_placed]

/-- The encoder of the operands that `w` holds takes the row's match and the bits of `w` that the row leaves free. -/
theorem encode_withOperands (hrow : opcodeMap[rowIndex i]? = some row) :
    encode (i.withOperands w) = row.pattern ||| (w &&& ~~~row.mask) := by
  cases i
  all_goals
    cases hrow
    simp [Instr.withOperands, encode, BitVec.or_assoc, ← BitVec.and_or_distrib_left]

theorem encode_withOperands_of_matchedBy (h : i.MatchedBy w) : encode (i.withOperands w) = w := by
  obtain ⟨row, hrow, hmatch⟩ := h
  rw [encode_withOperands hrow, ← hmatch, ← BitVec.and_or_distrib_left, BitVec.or_not_self, BitVec.and_allOnes]

/-! ## The decoder -/

theorem decode_of_matchedBy (h : i.MatchedBy w) (hwf : (i.withOperands w).WellFormed) :
    decode w = .ok (i.withOperands w) := by
  obtain ⟨row, hrow, hop, hclear⟩ := opField_of_matchedBy h
  cases i
  case pLoad d len =>
    cases hrow
    rw [decode, hop]
    exact (if_pos hclear).trans (if_pos hwf)
  all_goals
    cases hrow
    rw [decode, hop]
    exact if_pos hclear

/-- Every arm of the decoder gives the command of its own row, with the operands that the word holds. -/
theorem matchedBy_of_decode (h : decode w = .ok i) : i.MatchedBy w ∧ i.WellFormed ∧ i.withOperands w = i := by
  unfold decode at h
  split at h
  case h_6 hop =>
    split_ifs at h with hclear hlen
    cases h
    exact ⟨matchedBy_of_opField rfl hop hclear, hlen, rfl⟩
  case h_31 => cases h
  all_goals
    rename_i hop
    obtain ⟨hclear, rfl⟩ := rowGuard_eq_ok.mp h
    exact ⟨matchedBy_of_opField rfl hop hclear, trivial, rfl⟩

theorem decode_encode (h : i.WellFormed) : decode (encode i) = .ok i := by
  have hi := withOperands_encode i
  exact (decode_of_matchedBy (encode_matches i) (hi.symm ▸ h)).trans (congrArg _ hi)

/-- R99: a word spells a command exactly when it is the encoding of that command, and the command is well-formed. -/
theorem decode_eq_ok_iff : decode w = .ok i ↔ i.WellFormed ∧ encode i = w := by
  constructor
  · intro h
    obtain ⟨hmatch, hwf, hi⟩ := matchedBy_of_decode h
    exact ⟨hwf, (congrArg encode hi).symm.trans (encode_withOperands_of_matchedBy hmatch)⟩
  · rintro ⟨hwf, rfl⟩
    exact decode_encode hwf

/-! ## Legal and illegal words -/

/-- One command of each row, in the order of R95. -/
def commandOfEachRow : List Instr :=
  [.nop, .gfExp, .gfLog, .gfMul, .pClr 0, .pLoad 0 1, .pStore 0, .pShl 0 0 0, .pMul 0 0 0, .pMod 0 0 0, .pGen 0 0,
    .rsBlock 0, .rsAll, .cwIlv, .bwRst, .bwPut 0, .bwBit false, .bwSeg .numeric, .bwFin, .mxClr, .mxFnd, .mxAln, .mxTim,
    .mxFmt 0 false, .mxVer false, .mxMap 0, .mxBuild 0 false, .mxPen, .mxSel, .qBuild]

theorem rows_of_commandOfEachRow :
    commandOfEachRow.map (fun i => opcodeMap[rowIndex i]?) = opcodeMap.map some := by
  decide

theorem exists_command_of_row (hrow : row ∈ opcodeMap) : ∃ i, opcodeMap[rowIndex i]? = some row := by
  have h := List.mem_map_of_mem (f := some) hrow
  rw [← rows_of_commandOfEachRow] at h
  obtain ⟨i, -, hi⟩ := List.mem_map.mp h
  exact ⟨i, hi⟩

/-- A word is legal exactly when a row of R95 matches it and it passes R96. -/
theorem exists_decode_eq_ok_iff :
    (∃ i, decode w = .ok i) ↔ ∃ row ∈ opcodeMap, w &&& row.mask = row.pattern ∧
      (row.mnemonic = "P.LOAD" → 1 ≤ w.toNat % 512 ∧ w.toNat % 512 ≤ 256) := by
  constructor
  · rintro ⟨i, h⟩
    obtain ⟨⟨row, hrow, hmatch⟩, hwf, hi⟩ := matchedBy_of_decode h
    exact ⟨row, List.mem_of_getElem? hrow, hmatch, (wellFormed_withOperands_iff hrow).mp (hi.symm ▸ hwf)⟩
  · rintro ⟨row, hmem, hmatch, hlen⟩
    obtain ⟨i, hrow⟩ := exists_command_of_row hmem
    exact ⟨_, decode_of_matchedBy ⟨row, hrow, hmatch⟩ ((wellFormed_withOperands_iff hrow).mpr hlen)⟩

theorem exists_decode_eq_error_iff : (∃ e, decode w = .error e) ↔ ¬ ∃ i, decode w = .ok i := by
  cases decode w with
  | ok i => simp
  | error e => simp

/-- The OP values of R95 by its six groups. -/
theorem assignedOpcodes :
    ∀ n ∈ opcodeMap.map (fun row => (opField row.pattern).toNat), n ≤ 0x03 ∨ (0x10 ≤ n ∧ n ≤ 0x16) ∨
      (0x20 ≤ n ∧ n ≤ 0x22) ∨ (0x30 ≤ n ∧ n ≤ 0x34) ∨ (0x40 ≤ n ∧ n ≤ 0x49) ∨ n = 0x50 := by
  decide

/-- R97: a word whose OP is that of no row is illegal. -/
theorem decode_of_unassigned (hop : w.toNat / 2 ^ 24 ∉ opcodeMap.map (fun row => (opField row.pattern).toNat)) :
    decode w = .error .unassignedOpcode := by
  rw [← toNat_opField] at hop
  unfold decode
  split
  case h_31 => rfl
  all_goals
    rename_i hval
    rw [hval] at hop
    exact absurd (by decide) hop

/-- R237: the engine answers a pending illegal word with IllegalCommand. -/
theorem step_of_decode_error {s : Machine.State} {e : DecodeReject} (hmoves : s.engineMoves = true)
    (hd : decode s.cmd = .error e) : Machine.step s = .next s.illegalStep := by
  rw [Machine.step_engineMoves s hmoves, Machine.State.pending, hd]

end

/-! ## The obligations -/

/-- Settles O1: the encoded word is matched by the command's row, and its fields hold the command's operands. -/
theorem decodeOfEncode : Obligations.DecodeOfEncode := fun _ => decode_encode

/-- Settles O2: the decoder's arm tests every bit outside the operand fields, and the encoder restores those fields. -/
theorem encodeOfDecode : Obligations.EncodeOfDecode := fun _ _ => decode_eq_ok_iff.mp

/-- Settles O3: the legal words by rows, the answer to an illegal one, and the OP values of no row. -/
theorem illegalWordsAreAnswered : Obligations.IllegalWordsAreAnswered := by
  unfold Obligations.IllegalWordsAreAnswered
  refine fun w => ⟨?_, ?_, ?_⟩
  · rw [exists_decode_eq_error_iff, exists_decode_eq_ok_iff]
  · rintro s e hmoves rfl hd
    exact step_of_decode_error hmoves hd
  · intro op hop
    refine decode_of_unassigned fun hmem => ?_
    have := assignedOpcodes op hmem
    omega

/-- Settles O4: each word of R100 is the encoding of its command. -/
theorem exampleEncodings : Obligations.ExampleEncodings := by
  unfold Obligations.ExampleEncodings
  simp only [decode_eq_ok_iff]
  decide

end Sys2Proof
end

section
/-!
PROOFS. The bit writer (O33): BW.RST empties the buffer, BW.PUT and BW.BIT are one append of their bits, and an append ends
its command normally with all of them or with R112's error and none.
-/

namespace Sys2Proof.Machine

variable {s : State} {bits : List Bool}

/-! ## The three commands -/

theorem exec_bwRst : exec .bwRst s = .next ({ s with bb := [], bitlen := 0#32 }).normalEnd := rfl

theorem exec_bwPut (n : BitVec 5) :
    exec (.bwPut n) s = s.finish (s.append (bitsMsbFirst s.arg0.toNat n.toNat)) := rfl

theorem exec_bwBit (b : Bool) : exec (.bwBit b) s = s.finish (s.append [b]) := rfl

/-! ## How an append of `n` bits ends (R112) -/

theorem finish_append_of_fits {n : Nat} (hlen : bits.length = n) (h : s.bb.length + n ≤ 32768) :
    s.finish (s.append bits)
      = .next ({ s with bb := s.bb ++ bits, bitlen := Word.ofNat (s.bb.length + n) }).normalEnd := by
  subst hlen
  rw [s.append_eq_ok.mpr ⟨h, rfl⟩, State.finish_ok]

theorem finish_append_of_full {n : Nat} (hlen : bits.length = n) (h : 32768 < s.bb.length + n) :
    s.finish (s.append bits)
      = .next (s.errorEnd (.resourceOverflow .bitBuffer (Word.ofNat (s.bb.length + n)))) := by
  subst hlen
  rw [s.append_eq_error.mpr ⟨h, rfl⟩, State.finish_error]

/-! ## The bits of BW.PUT -/

/-- The first bit of a field is its most significant one. -/
theorem getElem?_bitsMsbFirst (value : Nat) {n i : Nat} (hi : i < n) :
    (bitsMsbFirst value n)[i]? = some (value.testBit (n - 1 - i)) := by
  rw [bitsMsbFirst, List.getElem?_map, List.getElem?_range hi, Option.map_some]

/-- Settles O33: each command is one append, of as many bits as its operand says, and an append fits or is refused whole. -/
theorem bitWriterAppends : Obligations.BitWriterAppends := by
  unfold Obligations.BitWriterAppends
  refine fun s => ⟨exec_bwRst, fun n => ?put, fun b => ?bit⟩
  case put =>
    have hlen := length_bitsMsbFirst s.arg0.toNat n.toNat
    rw [exec_bwPut]
    refine ⟨fun hfits => ⟨_, finish_append_of_fits hlen hfits, hlen, fun i hi => ?_⟩, finish_append_of_full hlen⟩
    rw [getElem?_bitsMsbFirst _ hi, BitVec.testBit_toNat]
  case bit =>
    rw [exec_bwBit]
    exact ⟨finish_append_of_fits List.length_singleton, finish_append_of_full List.length_singleton⟩

end Sys2Proof.Machine
end

section
/-!
PROOFS. The field of 0x11D (O24): EXP turns sums of exponents into products, its logarithm is taken back, and the product
of R125 is the product of polynomials of R121, which takes no logarithm.
-/

namespace Sys2Proof.Machine

open Sys2Proof.Claims

/-! ## The exponent counts modulo 255 (R125) -/

theorem gexp_emod (x : Int) : gexp (x % 255) = gexp x := by
  rw [gexp, Int.emod_emod, gexp]

/-- α^255 = 1: EXP's last entry closes the cycle, so R122's recurrence holds for every exponent. -/
theorem xtime_gexp (x : Int) : xtime (gexp x) = gexp (x + 1) := by
  have hcycle : expTable 255 = expTable 0 := by decide
  rw [gexp, gexp, ← expTable_succ _ (by omega)]
  obtain hlast | hmid : (x % 255).toNat = 254 ∨ (x % 255).toNat < 254 := by omega
  · rw [hlast, hcycle]
    congr 1
    omega
  · congr 1
    omega

theorem iterate_xtime_gexp (n : Nat) (x : Int) : xtime^[n] (gexp x) = gexp (x + n) := by
  induction n with
  | zero => simp
  | succ n ih => rw [Function.iterate_succ_apply', ih, xtime_gexp, add_assoc, Nat.cast_succ]

theorem gexp_zero : gexp 0 = 1#8 := expTable_zero

/-- R122: the power of α, by repeated multiplication by x, is what EXP gives. -/
theorem gexp_natCast (n : Nat) : gexp n = alphaPow n := by
  rw [alphaPow, ← gexp_zero, iterate_xtime_gexp, zero_add]

/-! ## Logarithms (R129 (a), (b)) -/

theorem gexp_ne_zero (x : Int) : gexp x ≠ 0#8 := by
  have htable : ∀ i < 255, expTable i ≠ 0#8 := by decide +kernel
  exact htable _ (by omega)

theorem glog_gexp (x : Int) : (glog (gexp x) : Int) = x % 255 := by
  rw [glog, if_neg (gexp_ne_zero x), gexp, logTable_expTable _ (by omega)]
  omega

theorem glog_lt {x : Byte} (hx : x ≠ 0#8) : glog x < 255 := by
  have hlog := glog_gexp (glog x)
  rw [gexp_glog hx] at hlog
  omega

/-- Every element is 0 or a power of α. -/
theorem eq_zero_or_gexp (a : Byte) : a = 0#8 ∨ ∃ x, a = gexp x :=
  or_iff_not_imp_left.mpr fun ha => ⟨glog a, (gexp_glog ha).symm⟩

/-! ## The product (R129 (d), (e)) -/

@[simp] theorem gmul_gexp (x y : Int) : gmul (gexp x) (gexp y) = gexp (x + y) := by
  rw [gmul, if_neg (by simp [gexp_ne_zero]), glog_gexp, glog_gexp, gexp, ← Int.add_emod, gexp]

theorem gmul_comm (a b : Byte) : gmul a b = gmul b a := by
  simp only [gmul, or_comm, add_comm]

theorem gmul_assoc (a b c : Byte) : gmul (gmul a b) c = gmul a (gmul b c) := by
  obtain rfl | ⟨x, rfl⟩ := eq_zero_or_gexp a
  · simp
  obtain rfl | ⟨y, rfl⟩ := eq_zero_or_gexp b
  · simp
  obtain rfl | ⟨z, rfl⟩ := eq_zero_or_gexp c
  · simp
  simp only [gmul_gexp, add_assoc]

theorem gmul_one_left (a : Byte) : gmul 1#8 a = a := by
  obtain rfl | ⟨x, rfl⟩ := eq_zero_or_gexp a
  · exact gmul_zero_right _
  · rw [← gexp_zero, gmul_gexp, zero_add]

theorem eq_zero_or_eq_zero_of_gmul {a b : Byte} (h : gmul a b = 0#8) : a = 0#8 ∨ b = 0#8 := by
  by_contra hne
  rw [gmul, if_neg hne] at h
  exact gexp_ne_zero _ h

theorem gmul_inverse {a : Byte} (ha : a ≠ 0#8) : gmul a (gexp (255 - (glog a : Int))) = 1#8 := by
  calc gmul a (gexp (255 - (glog a : Int)))
      = gmul (gexp (glog a)) (gexp (255 - (glog a : Int))) := by rw [gexp_glog ha]
    _ = gexp (0 + 255) := by rw [gmul_gexp]; congr 1; omega
    _ = 1#8 := by rw [gexp_period, gexp_zero]

/-! ## Multiplication by x is linear -/

theorem xtime_eq (v : Byte) : xtime v = v <<< 1 ^^^ if v.msb then 0x1D#8 else 0#8 := by
  simp only [xtime, BitVec.msb_eq_decide, decide_eq_true_eq]
  split <;> simp_all

theorem xtime_xor (a b : Byte) : xtime (a ^^^ b) = xtime a ^^^ xtime b := by
  rw [xtime_eq, xtime_eq, xtime_eq, BitVec.msb_xor, BitVec.shiftLeft_xor_distrib]
  have hbit : (if a.msb ^^ b.msb then 0x1D#8 else 0#8)
      = (if a.msb then 0x1D#8 else 0#8) ^^^ if b.msb then 0x1D#8 else 0#8 := by
    cases a.msb <;> cases b.msb <;> rfl
  rw [hbit]
  ac_rfl

@[simp] theorem xtime_zero : xtime 0#8 = 0#8 := by decide

theorem iterate_xtime_zero (n : Nat) : xtime^[n] 0#8 = 0#8 :=
  Function.iterate_fixed xtime_zero n

/-! ## The product of polynomials (R121) -/

/-- The part of a product that bit `i` of the second factor contributes. -/
def productTerm (a b : Byte) (i : Nat) : Byte := if b.getLsbD i then xtime^[i] a else 0#8

theorem productTerm_xor (a b c : Byte) (i : Nat) :
    productTerm a (b ^^^ c) i = productTerm a b i ^^^ productTerm a c i := by
  rw [productTerm, BitVec.getLsbD_xor, productTerm, productTerm]
  cases b.getLsbD i <;> cases c.getLsbD i <;> simp

theorem productTerm_xtime (a b : Byte) (i : Nat) : productTerm (xtime a) b i = xtime (productTerm a b i) := by
  rw [productTerm, productTerm, ← Function.iterate_succ_apply, Function.iterate_succ_apply', apply_ite xtime, xtime_zero]

theorem fieldProduct_eq_xor_terms (a b : Byte) :
    fieldProduct a b = (List.range 8).foldl (fun acc i => acc ^^^ productTerm a b i) 0#8 := by
  simp only [fieldProduct, productTerm, apply_ite, BitVec.xor_zero]

theorem fieldProduct_xor (a b c : Byte) : fieldProduct a (b ^^^ c) = fieldProduct a b ^^^ fieldProduct a c := by
  simp only [fieldProduct_eq_xor_terms, productTerm_xor]
  exact List.foldl_hom₂ (List.range 8) (· ^^^ ·) _ _ _ 0#8 0#8 fun x y i => by ac_rfl

theorem fieldProduct_xtime (a b : Byte) : fieldProduct (xtime a) b = xtime (fieldProduct a b) := by
  simp only [fieldProduct_eq_xor_terms, productTerm_xtime]
  exact List.foldl_hom (init := 0#8) xtime fun x i => (xtime_xor x (productTerm a b i)).symm

theorem fieldProduct_one_left : ∀ b : Byte, fieldProduct 1#8 b = b := by decide +kernel

theorem fieldProduct_zero_left (b : Byte) : fieldProduct 0#8 b = 0#8 := by
  simp [fieldProduct, iterate_xtime_zero]

theorem fieldProduct_zero_right (a : Byte) : fieldProduct a 0#8 = 0#8 := by
  simp [fieldProduct]

/-- A factor α^n is n multiplications by x. -/
theorem fieldProduct_alphaPow (n : Nat) (b : Byte) : fieldProduct (alphaPow n) b = xtime^[n] b := by
  induction n with
  | zero => exact fieldProduct_one_left b
  | succ n ih =>
    rw [alphaPow, Function.iterate_succ_apply', fieldProduct_xtime, ← alphaPow, ih, Function.iterate_succ_apply']

theorem gmul_eq_fieldProduct (a b : Byte) : gmul a b = fieldProduct a b := by
  obtain rfl | ha := eq_or_ne a 0#8
  · rw [gmul_zero_left, fieldProduct_zero_left]
  obtain rfl | hb := eq_or_ne b 0#8
  · rw [gmul_zero_right, fieldProduct_zero_right]
  calc gmul a b
      = gexp ((glog b : Int) + glog a) := by rw [gmul, if_neg (not_or.mpr ⟨ha, hb⟩), add_comm]
    _ = xtime^[glog a] b := by rw [← iterate_xtime_gexp, gexp_glog hb]
    _ = fieldProduct a b := by rw [← fieldProduct_alphaPow, ← gexp_natCast, gexp_glog ha]

theorem gmul_xor (a b c : Byte) : gmul a (b ^^^ c) = gmul a b ^^^ gmul a c := by
  simp only [gmul_eq_fieldProduct, fieldProduct_xor]

/-- Settles O24: on powers of α the product adds exponents, which gives all laws but the last of (d); that one is the
linearity of the product of polynomials. -/
theorem fieldLaws : Obligations.FieldLaws := by
  unfold Obligations.FieldLaws
  refine ⟨fun _ => gexp_glog, fun i hi => ?_, gexp_period, fun a b c => ?_, fun _ => gmul_inverse⟩
  · have hlog := glog_gexp i
    omega
  · exact ⟨gmul_comm a b, gmul_assoc a b c, gmul_one_left a, eq_zero_or_eq_zero_of_gmul, gmul_xor a b c⟩

end Sys2Proof.Machine
end

section
/-!
PROOFS. The GF(256) commands (O21, O22, O23): which operands they complete on, and the element they answer.
-/

namespace Sys2Proof.Machine

open Sys2Proof.Claims

/-! ## Operands that are elements -/

theorem toNat_setWidth_of_toInt {w : Word} (hlo : 0 ≤ w.toInt) (hhi : w.toInt ≤ 255) :
    (w.setWidth 8).toNat = w.toNat := by
  rw [BitVec.toInt_eq_toNat_cond] at hlo hhi
  rw [BitVec.toNat_setWidth]
  split at hlo <;> omega

theorem setWidth_ne_zero_of_toInt {w : Word} (hlo : 1 ≤ w.toInt) (hhi : w.toInt ≤ 255) : w.setWidth 8 ≠ 0#8 := by
  intro hzero
  have hnat := toNat_setWidth_of_toInt (by omega) hhi
  obtain rfl : w = 0#32 := BitVec.eq_of_toNat_eq (by rw [← hnat, hzero]; rfl)
  exact absurd hlo (by decide)

theorem not_outside {x lo hi : Int} (hlo : lo ≤ x) (hhi : x ≤ hi) : ¬ (x < lo ∨ x > hi) :=
  not_or.mpr ⟨hlo.not_gt, hhi.not_gt⟩

/-! ## How the commands end -/

/-- A byte in RESULT: zero extended to the word (R126, R128). -/
theorem State.setResult_byte (s : State) (b : Byte) : s.setResult b.toNat = { s with result := b.setWidth 32 } := by
  rw [State.setResult, Word.ofNat, BitVec.ofNat_toNat]

theorem exec_gfExp (s : State) : exec .gfExp s = .next (s.setResult (gexp s.arg0.toInt).toNat).normalEnd := rfl

theorem exec_gfLog (s : State) : exec .gfLog s = s.finish (gfLogBody s) := rfl

theorem exec_gfMul (s : State) : exec .gfMul s = s.finish (gfMulBody s) := rfl

section
variable {s : State}

theorem gfLogBody_of_outside (h : s.arg0.toInt < 1 ∨ 255 < s.arg0.toInt) :
    gfLogBody s = .error (.fieldArithmeticDomainError s.arg0) := if_pos h

theorem gfMulBody_of_first_outside (h : s.arg0.toInt < 0 ∨ 255 < s.arg0.toInt) :
    gfMulBody s = .error (.fieldArithmeticDomainError s.arg0) := if_pos h

theorem gfMulBody_of_second_outside (hlo : 0 ≤ s.arg0.toInt) (hhi : s.arg0.toInt ≤ 255)
    (h : s.arg1.toInt < 0 ∨ 255 < s.arg1.toInt) :
    gfMulBody s = .error (.fieldArithmeticDomainError s.arg1) :=
  (if_neg (not_outside hlo hhi)).trans (if_pos h)

end

/-- Settles O21: EXP's entry for the exponent modulo 255 is that power of α. -/
theorem gfExpIsAPowerOfAlpha : Obligations.GfExpIsAPowerOfAlpha := by
  unfold Obligations.GfExpIsAPowerOfAlpha
  intro s
  have hpow : gexp s.arg0.toInt = alphaPow (s.arg0.toInt % 255).toNat := by
    rw [← gexp_natCast, Int.toNat_of_nonneg (Int.emod_nonneg _ (by decide)), gexp_emod]
  rw [exec_gfExp, hpow, State.setResult_byte]

/-- Settles O22: an operand in range is an element other than 0, which α to its logarithm gives back. -/
theorem gfLogIsTheDiscreteLogarithm : Obligations.GfLogIsTheDiscreteLogarithm := by
  unfold Obligations.GfLogIsTheDiscreteLogarithm
  refine fun s => ⟨fun hlo hhi => ?element, fun hout => ?outside⟩
  case element =>
    have hne := setWidth_ne_zero_of_toInt hlo hhi
    refine ⟨glog (s.arg0.setWidth 8), glog_lt hne, ?_, ?_⟩
    · rw [exec_gfLog, gfLogBody_eq_ok.mpr ⟨not_outside hlo hhi, rfl⟩, State.finish_ok, State.setResult]
    · rw [← gexp_natCast, gexp_glog hne, toNat_setWidth_of_toInt (by omega) hhi]
  case outside => rw [exec_gfLog, gfLogBody_of_outside hout, State.finish_error]

/-- Settles O23: after the two checks of R128 the product by logarithms is the product of polynomials. -/
theorem gfMulIsTheFieldProduct : Obligations.GfMulIsTheFieldProduct := by
  unfold Obligations.GfMulIsTheFieldProduct
  refine fun s => ⟨fun hlo0 hhi0 hlo1 hhi1 => ?elements, fun hout0 => ?first, fun hlo0 hhi0 hout1 => ?second⟩
  case elements =>
    have hbody := gfMulBody_eq_ok.mpr ⟨not_outside hlo0 hhi0, not_outside hlo1 hhi1, rfl⟩
    rw [exec_gfMul, hbody, State.finish_ok, State.setResult_byte, gmul_eq_fieldProduct]
  case first => rw [exec_gfMul, gfMulBody_of_first_outside hout0, State.finish_error]
  case second => rw [exec_gfMul, gfMulBody_of_second_outside hlo0 hhi0 hout1, State.finish_error]

end Sys2Proof.Machine
end

section
/-!
PROOFS. Polynomials coefficient by coefficient and by their values: what normalization strips (R137), the product (R138)
and the reduction (R139) as statements about coefficients, and the value of a product.
-/

namespace Sys2Proof.Machine

open Sys2Proof.Claims

/-! ## The field's addition beside its product -/

theorem xor_gmul (a b c : Byte) : gmul (a ^^^ b) c = gmul a c ^^^ gmul b c := by
  rw [gmul_comm, gmul_xor, gmul_comm c, gmul_comm c]

theorem gmul_one_right (a : Byte) : gmul a 1#8 = a := by
  rw [gmul_comm, gmul_one_left]

/-! ## Leading zeros (R137) -/

theorem norm_zero_cons (l : List Byte) : norm (0#8 :: l) = norm l := by
  cases l <;> simp [norm]

theorem norm_zeros_append (n : Nat) (l : List Byte) : norm (List.replicate n 0#8 ++ l) = norm l := by
  induction n with
  | zero => rfl
  | succ n ih => rw [List.replicate_succ, List.cons_append, norm_zero_cons, ih]

/-- norm strips leading zeros and nothing else: with as many zeros in front again it is the list. -/
theorem zeros_append_norm {l : List Byte} (hl : l ≠ []) :
    List.replicate (l.length - (norm l).length) 0#8 ++ norm l = l := by
  fun_induction norm l with
  | case1 => exact absurd rfl hl
  | case2 c => simp
  | case3 d rest ih =>
    have hlen := norm_length_le (d :: rest) (List.cons_ne_nil _ _)
    rw [List.length_cons, Nat.succ_sub hlen, List.replicate_succ, List.cons_append, ih (List.cons_ne_nil _ _)]
  | case4 c d rest h => simp

theorem norm_of_normalized {p : Poly} (hp : normalized p = true) : norm p = p := by
  by_cases hzero : p = [0#8]
  · rw [hzero]
    rfl
  · obtain ⟨c, rest, rfl⟩ := List.exists_cons_of_ne_nil (ne_nil_of_normalized hp)
    exact norm_of_head c rest (head_ne_zero_of_normalized hp hzero)

/-- A list of zero coefficients is the zero polynomial (R137). -/
theorem norm_of_zero_coeffs {l : List Byte} (hl : ∀ k, l.getD k 0#8 = 0#8) : norm l = [0#8] := by
  induction l with
  | nil => rfl
  | cons c l ih =>
    obtain rfl : c = 0#8 := hl 0
    rw [norm_zero_cons, ih fun k => hl (k + 1)]

/-! ## Sums of coefficient lists (R121) -/

/-- A list XORed into the first coefficients of one that is no shorter, as R139's pass does it. -/
theorem getD_xorCoeffs_append_drop {a b : List Byte} (hlen : b.length ≤ a.length) (k : Nat) :
    (xorCoeffs a b ++ a.drop b.length).getD k 0#8 = a.getD k 0#8 ^^^ b.getD k 0#8 := by
  induction a generalizing b k with
  | nil =>
    obtain rfl : b = [] := List.length_eq_zero_iff.mp (Nat.le_zero.mp hlen)
    simp [xorCoeffs]
  | cons c a ih =>
    cases b with
    | nil => simp [xorCoeffs]
    | cons d b =>
      cases k with
      | zero => rfl
      | succ k => exact ih (Nat.le_of_succ_le_succ hlen) k

theorem getD_xorCoeffs {a b : List Byte} (hlen : a.length = b.length) (k : Nat) :
    (xorCoeffs a b).getD k 0#8 = a.getD k 0#8 ^^^ b.getD k 0#8 := by
  rw [← getD_xorCoeffs_append_drop hlen.ge, ← hlen, List.drop_length, List.append_nil]

theorem getD_map_gmul (c : Byte) (l : List Byte) (k : Nat) :
    (l.map (gmul c)).getD k 0#8 = gmul c (l.getD k 0#8) := by
  simpa only [gmul_zero_right] using List.getD_map (f := gmul c) (l := l) (d := 0#8) (n := k)

theorem getD_zeros (n k : Nat) : (List.replicate n 0#8).getD k 0#8 = 0#8 := by
  rw [List.getD_eq_getElem?_getD, List.getElem?_getD_replicate_default_eq]

theorem getD_append_zeros (l : List Byte) (n k : Nat) :
    (l ++ List.replicate n 0#8).getD k 0#8 = l.getD k 0#8 := by
  obtain hlt | hge := lt_or_ge k l.length
  · exact List.getD_append _ _ _ _ hlt
  · rw [List.getD_append_right _ _ _ _ hge, List.getD_eq_default l _ hge, getD_zeros]

/-! ## The coefficients of a product (R138) -/

theorem xorSum_cons (c : Byte) (l : List Byte) : xorSum (c :: l) = c ^^^ xorSum l := by
  rw [xorSum, List.foldl_cons, BitVec.zero_xor, ← BitVec.xor_zero (x := c), List.foldl_assoc, BitVec.xor_zero, xorSum]

theorem xorSum_zeros (l : List Byte) (hl : ∀ c ∈ l, c = 0#8) : xorSum l = 0#8 := by
  induction l with
  | nil => rfl
  | cons c l ih =>
    rw [xorSum_cons, hl c List.mem_cons_self, ih fun d hd => hl d (List.mem_cons_of_mem c hd), BitVec.xor_zero]

/-- The bound on the second factor's places is no condition: past its end the coefficients are 0. -/
theorem productCoeff_eq (x y : List Byte) (k : Nat) :
    productCoeff x y k = xorSum ((List.range x.length).map fun i =>
      if i ≤ k then gmul (x.getD i 0#8) (y.getD (k - i) 0#8) else 0#8) := by
  rw [productCoeff]
  congr 2
  funext i
  by_cases hlen : k - i < y.length
  · simp only [hlen, and_true]
  · rw [List.getD_eq_default _ _ (not_lt.mp hlen), gmul_zero_right, ite_self, ite_self]

theorem productCoeff_nil (y : List Byte) (k : Nat) : productCoeff [] y k = 0#8 := rfl

theorem productCoeff_cons (c : Byte) (x y : List Byte) (k : Nat) :
    productCoeff (c :: x) y k = gmul c (y.getD k 0#8) ^^^ xorSum ((List.range x.length).map fun i =>
      if i + 1 ≤ k then gmul (x.getD i 0#8) (y.getD (k - (i + 1)) 0#8) else 0#8) := by
  rw [productCoeff_eq, List.length_cons, List.range_succ_eq_map, List.map_cons, xorSum_cons, List.map_map]
  rfl

theorem productCoeff_cons_zero (c : Byte) (x y : List Byte) :
    productCoeff (c :: x) y 0 = gmul c (y.getD 0 0#8) := by
  rw [productCoeff_cons, xorSum_zeros _ (by simp), BitVec.xor_zero]

theorem productCoeff_cons_succ (c : Byte) (x y : List Byte) (k : Nat) :
    productCoeff (c :: x) y (k + 1) = gmul c (y.getD (k + 1) 0#8) ^^^ productCoeff x y k := by
  rw [productCoeff_cons, productCoeff_eq]
  simp only [Nat.add_le_add_iff_right, Nat.add_sub_add_right]

/-- R138: the two lists that one step of the convolution adds have the product's length. -/
theorem length_convolve_summands (c : Byte) (x : List Byte) {y : List Byte} (hy : y ≠ []) :
    (y.map (gmul c) ++ List.replicate x.length 0#8).length = (0#8 :: convolve x y).length := by
  have hpos := List.length_pos_of_ne_nil hy
  simp only [List.length_append, List.length_map, List.length_replicate, List.length_cons, convolve_length x y hy]
  omega

/-- R138: the convolution, coefficient by coefficient. -/
theorem getD_convolve (x : List Byte) {y : List Byte} (hy : y ≠ []) (k : Nat) :
    (convolve x y).getD k 0#8 = productCoeff x y k := by
  induction x generalizing k with
  | nil => exact getD_zeros _ k
  | cons c x ih =>
    rw [convolve, getD_xorCoeffs (length_convolve_summands c x hy), getD_append_zeros, getD_map_gmul]
    cases k with
    | zero => rw [List.getD_cons_zero, BitVec.xor_zero, productCoeff_cons_zero]
    | succ k => rw [List.getD_cons_succ, ih, productCoeff_cons_succ]

/-- A zero factor makes every coefficient of the product 0. -/
theorem productCoeff_of_zero {x y : List Byte} (h : x = [0#8] ∨ y = [0#8]) (k : Nat) : productCoeff x y k = 0#8 := by
  have hzero : ∀ k, ([0#8] : List Byte).getD k 0#8 = 0#8 := getD_zeros 1
  rw [productCoeff_eq]
  refine xorSum_zeros _ fun c hc => ?_
  obtain ⟨i, -, rfl⟩ := List.mem_map.mp hc
  obtain rfl | rfl := h
  · rw [hzero, gmul_zero_left, ite_self]
  · rw [hzero, gmul_zero_right, ite_self]

theorem pmul_of_zero {x y : Poly} (hy : y ≠ []) (h : x = [0#8] ∨ y = [0#8]) : pmul x y = [0#8] :=
  norm_of_zero_coeffs fun k => by rw [getD_convolve x hy, productCoeff_of_zero h]

/-- R138: the product of two polynomials other than [0] has the leading coefficients' product in front, so normalization
strips nothing. -/
theorem pmul_of_ne_zero {x y : Poly} (hx : normalized x = true) (hx0 : x ≠ [0#8]) (hy : normalized y = true)
    (hy0 : y ≠ [0#8]) : pmul x y = convolve x y := by
  obtain ⟨c, x', rfl⟩ := List.exists_cons_of_ne_nil (ne_nil_of_normalized hx)
  obtain ⟨d, y', rfl⟩ := List.exists_cons_of_ne_nil (ne_nil_of_normalized hy)
  have hlead : gmul c d ^^^ 0#8 ≠ 0#8 := by
    rw [BitVec.xor_zero]
    intro hcd
    obtain hc | hd := eq_zero_or_eq_zero_of_gmul hcd
    · exact head_ne_zero_of_normalized hx hx0 hc
    · exact head_ne_zero_of_normalized hy hy0 hd
  exact norm_of_head _ _ hlead

/-! ## The reduction, coefficient by coefficient (R139) -/

theorem pmodLoop_of_reduced {r b : Poly} (h : r = [0#8] ∨ r.length < b.length) (fuel : Nat) :
    pmodLoop fuel r b = r := by
  cases fuel with
  | zero => rfl
  | succ fuel =>
    refine if_neg fun hpass => ?_
    obtain hzero | hshort := h
    · exact hpass.1 hzero
    · exact absurd hpass.2 (not_le.mpr hshort)

/-- The factor by which a pass scales the divisor: the ratio of the leading coefficients. -/
def passFactor (c d : Byte) : Byte := gexp ((glog c : Int) - (glog d : Int))

/-- The quotient of two elements other than 0. -/
theorem gmul_passFactor {c d : Byte} (hc : c ≠ 0#8) (hd : d ≠ 0#8) : gmul (passFactor c d) d = c := by
  calc gmul (passFactor c d) d
      = gmul (passFactor c d) (gexp (glog d)) := by rw [gexp_glog hd]
    _ = gexp (glog c) := by rw [passFactor, gmul_gexp, sub_add_cancel]
    _ = c := gexp_glog hc

/-- "if b[i] = 0 then 0 else gexp(glog(b[i]) + ratio)" is a product in the field. -/
theorem scaled_eq_gmul (ratio : Int) (e : Byte) :
    (if e = 0#8 then 0#8 else gexp ((glog e : Int) + ratio)) = gmul (gexp ratio) e := by
  split
  next he => rw [he, gmul_zero_right]
  next he => rw [← gmul_gexp, gexp_glog he, gmul_comm]

/-- The coefficients `v` less `b` scaled by `e`, in the first places. -/
def subScaled (e : Byte) (v b : List Byte) : List Byte := xorCoeffs v (b.map (gmul e)) ++ v.drop b.length

theorem length_subScaled (e : Byte) {v b : List Byte} (hlen : b.length ≤ v.length) :
    (subScaled e v b).length = v.length := by
  rw [subScaled, xorCoeffs, List.length_append, List.length_zipWith, List.length_map, List.length_drop]
  omega

theorem getD_subScaled (e : Byte) {v b : List Byte} (hlen : b.length ≤ v.length) (k : Nat) :
    (subScaled e v b).getD k 0#8 = v.getD k 0#8 ^^^ gmul e (b.getD k 0#8) := by
  have hmap : (b.map (gmul e)).length = b.length := List.length_map _
  rw [subScaled, ← hmap, getD_xorCoeffs_append_drop (hmap.le.trans hlen), getD_map_gmul]

/-- One pass cancels the leading coefficient and subtracts the scaled divisor from the others. -/
theorem pmodPass_cons {c d : Byte} (hc : c ≠ 0#8) (hd : d ≠ 0#8) (v b : List Byte) :
    pmodPass (c :: v) (d :: b) = norm (subScaled (passFactor c d) v b) := by
  simp only [pmodPass, List.headD_cons, scaled_eq_gmul]
  rw [← passFactor, List.map_cons, gmul_passFactor hc hd, xorCoeffs, List.zipWith_cons_cons, BitVec.xor_self,
    List.length_cons, List.drop_succ_cons, List.cons_append, norm_zero_cons, subScaled, xorCoeffs]

/-- What a quotient `q` and a tail `t` must meet to divide the coefficients `u` by `b`: `t` stands at `u`'s low end. -/
structure IsDivision (u b q t : List Byte) : Prop where
  lengths : q.length + t.length = u.length
  coeffs : ∀ k, u.getD k 0#8 = productCoeff q b k ^^^ (List.replicate q.length 0#8 ++ t).getD k 0#8

/-- A division of what is left after the leading coefficient gives one of the whole, one coefficient longer. -/
theorem IsDivision.cons {c e : Byte} {v w b q t : List Byte} (hdiv : IsDivision w b q t) (hlen : w.length = v.length)
    (hlead : c = gmul e (b.getD 0 0#8))
    (hrest : ∀ k, v.getD k 0#8 = gmul e (b.getD (k + 1) 0#8) ^^^ w.getD k 0#8) :
    IsDivision (c :: v) b (e :: q) t where
  lengths := by
    have := hdiv.lengths
    simp only [List.length_cons]
    omega
  coeffs k := by
    rw [List.length_cons, List.replicate_succ, List.cons_append]
    cases k with
    | zero => rw [List.getD_cons_zero, productCoeff_cons_zero, List.getD_cons_zero, BitVec.xor_zero, hlead]
    | succ k =>
      rw [List.getD_cons_succ, productCoeff_cons_succ, List.getD_cons_succ, hrest, hdiv.coeffs, BitVec.xor_assoc]

theorem IsDivision.zero_cons {v b q t : List Byte} (hdiv : IsDivision v b q t) : IsDivision (0#8 :: v) b (0#8 :: q) t :=
  hdiv.cons rfl (gmul_zero_left _).symm fun k => by rw [gmul_zero_left, BitVec.zero_xor]

/-- A pass of R139's loop finds the quotient's next coefficient. -/
theorem IsDivision.pass {c d : Byte} {v b q t : List Byte} (hc : c ≠ 0#8) (hd : d ≠ 0#8)
    (hlen : b.length ≤ v.length) (hdiv : IsDivision (subScaled (passFactor c d) v b) (d :: b) q t) :
    IsDivision (c :: v) (d :: b) (passFactor c d :: q) t :=
  hdiv.cons (length_subScaled _ hlen) (gmul_passFactor hc hd).symm fun k => by
    rw [getD_subScaled _ hlen, List.getD_cons_succ, BitVec.xor_comm, BitVec.xor_assoc, BitVec.xor_self, BitVec.xor_zero]

/-- R139 by schoolbook division, one quotient coefficient at a time: 0 where the leading coefficient is 0 already, else
a pass of the loop. The tail that is left is the loop's answer, before its leading zeros are stripped. -/
theorem exists_isDivision_pmodLoop {d : Byte} (hd : d ≠ 0#8) (b : List Byte) {m fuel : Nat} {u : List Byte}
    (hu : u.length = m + b.length) (hfuel : u.length ≤ fuel) :
    ∃ q t, IsDivision u (d :: b) q t ∧ t.length = b.length ∧ pmodLoop fuel (norm u) (d :: b) = norm t := by
  induction m generalizing u fuel with
  | zero =>
    rw [Nat.zero_add] at hu
    refine ⟨[], u, ⟨Nat.zero_add _, fun k => BitVec.zero_xor.symm⟩, hu, pmodLoop_of_reduced ?_ fuel⟩
    obtain rfl | hne := eq_or_ne u []
    · exact .inl rfl
    · exact .inr (Nat.lt_succ_of_le (hu ▸ norm_length_le u hne))
  | succ m ih =>
    obtain ⟨c, v, rfl⟩ := List.exists_cons_of_length_pos (l := u) (by omega)
    rw [List.length_cons] at hu hfuel
    by_cases hc : c = 0#8
    case pos =>
      subst hc
      obtain ⟨q, t, hdiv, ht, hloop⟩ := ih (u := v) (fuel := fuel) (by omega) (by omega)
      exact ⟨0#8 :: q, t, hdiv.zero_cons, ht, by rw [norm_zero_cons, hloop]⟩
    case neg =>
      have hlen : b.length ≤ v.length := by omega
      have hsub := length_subScaled (passFactor c d) hlen
      obtain ⟨fuel, rfl⟩ := Nat.exists_eq_add_of_le' (Nat.one_le_of_lt hfuel)
      obtain ⟨q, t, hdiv, ht, hloop⟩ :=
        ih (u := subScaled (passFactor c d) v b) (fuel := fuel) (by omega) (by omega)
      have hpass : c :: v ≠ [0#8] ∧ (c :: v).length ≥ (d :: b).length := ⟨by simp [hc], Nat.succ_le_succ hlen⟩
      exact ⟨passFactor c d :: q, t, hdiv.pass hc hd hlen, ht, by
        rw [norm_of_head c v hc, pmodLoop, if_pos hpass, pmodPass_cons hc hd, hloop]⟩

/-- R139: the remainder of normalized polynomials, with leading zeros to the dividend's length, and a quotient. -/
theorem exists_quotient_pmod {a b : Poly} (ha : normalized a = true) (hb : normalized b = true) (hb0 : b ≠ [0#8])
    (hlen : b.length ≤ a.length) :
    ∃ q : List Byte, q.length + b.length = a.length + 1 ∧ ∀ k, a.getD k 0#8
      = productCoeff q b k ^^^ (List.replicate (a.length - (pmod a b).length) 0#8 ++ pmod a b).getD k 0#8 := by
  obtain ⟨d, b, rfl⟩ := List.exists_cons_of_ne_nil (ne_nil_of_normalized hb)
  rw [List.length_cons] at hlen
  have hd := head_ne_zero_of_normalized hb hb0
  obtain ⟨q, t, ⟨hlens, hcoeffs⟩, ht, hloop⟩ :=
    exists_isDivision_pmodLoop hd b (Nat.sub_add_cancel (Nat.le_of_succ_le hlen)).symm le_rfl
  rw [norm_of_normalized ha] at hloop
  have hlow : (List.replicate q.length 0#8 ++ t).length = a.length := by
    rw [List.length_append, List.length_replicate, hlens]
  have hpad : List.replicate (a.length - (pmod a (d :: b)).length) 0#8 ++ pmod a (d :: b)
      = List.replicate q.length 0#8 ++ t := by
    rw [pmod, hloop, ← norm_zeros_append q.length t, ← hlow]
    exact zeros_append_norm (List.ne_nil_of_length_pos (by omega))
  refine ⟨q, by rw [List.length_cons]; omega, fun k => ?_⟩
  rw [hcoeffs, hpad]

/-! ## The value of a polynomial -/

/-- x to the n. -/
def gpow (x : Byte) : Nat → Byte
  | 0 => 1#8
  | n + 1 => gmul x (gpow x n)

theorem foldl_eval (acc : Byte) (l : List Byte) (x : Byte) :
    l.foldl (fun acc c => gmul acc x ^^^ c) acc = gmul acc (gpow x l.length) ^^^ eval l x := by
  induction l generalizing acc with
  | nil => rw [List.foldl_nil, List.length_nil, gpow, gmul_one_right, eval, List.foldl_nil, BitVec.xor_zero]
  | cons c l ih =>
    rw [eval, List.foldl_cons, List.foldl_cons, ih, ih, gmul_zero_left, BitVec.zero_xor, xor_gmul, List.length_cons,
      gpow, gmul_assoc, BitVec.xor_assoc]

theorem eval_cons (c : Byte) (l : List Byte) (x : Byte) :
    eval (c :: l) x = gmul c (gpow x l.length) ^^^ eval l x := by
  rw [← foldl_eval, eval, List.foldl_cons, gmul_zero_left, BitVec.zero_xor]

theorem eval_append (a l : List Byte) (x : Byte) :
    eval (a ++ l) x = gmul (eval a x) (gpow x l.length) ^^^ eval l x := by
  rw [← foldl_eval, eval, List.foldl_append, eval]

theorem eval_zeros (n : Nat) (x : Byte) : eval (List.replicate n 0#8) x = 0#8 := by
  induction n with
  | zero => rfl
  | succ n ih => rw [List.replicate_succ, eval_cons, gmul_zero_left, ih, BitVec.xor_zero]

theorem eval_norm (l : List Byte) (x : Byte) : eval (norm l) x = eval l x := by
  obtain rfl | hl := eq_or_ne l []
  · exact eval_zeros 1 x
  · conv_rhs => rw [← zeros_append_norm hl]
    rw [eval_append, eval_zeros, gmul_zero_left, BitVec.zero_xor]

theorem eval_map_gmul (c : Byte) (l : List Byte) (x : Byte) : eval (l.map (gmul c)) x = gmul c (eval l x) := by
  induction l with
  | nil => rw [List.map_nil, eval, List.foldl_nil, gmul_zero_right]
  | cons d l ih => rw [List.map_cons, eval_cons, List.length_map, ih, eval_cons, gmul_xor, gmul_assoc]

theorem eval_xorCoeffs {a b : List Byte} (hlen : a.length = b.length) (x : Byte) :
    eval (xorCoeffs a b) x = eval a x ^^^ eval b x := by
  rw [xorCoeffs]
  induction a generalizing b with
  | nil =>
    obtain rfl : b = [] := List.length_eq_zero_iff.mp hlen.symm
    exact BitVec.xor_self.symm
  | cons c a ih =>
    cases b with
    | nil => cases hlen
    | cons d b =>
      have hlen : a.length = b.length := Nat.succ.inj hlen
      rw [List.zipWith_cons_cons, eval_cons, ih hlen, eval_cons, eval_cons, List.length_zipWith, hlen, Nat.min_self,
        xor_gmul]
      ac_rfl

/-- The value of a product is the product of the values. -/
theorem eval_convolve (a : List Byte) {b : List Byte} (hb : b ≠ []) (x : Byte) :
    eval (convolve a b) x = gmul (eval a x) (eval b x) := by
  induction a with
  | nil => rw [convolve, eval_zeros, eval, List.foldl_nil, gmul_zero_left]
  | cons c a ih =>
    rw [convolve, eval_xorCoeffs (length_convolve_summands c a hb), eval_append, eval_zeros, List.length_replicate,
      eval_map_gmul, BitVec.xor_zero, eval_cons, ih, gmul_zero_left, BitVec.zero_xor, eval_cons, xor_gmul, gmul_assoc,
      gmul_assoc, gmul_comm (eval b x)]

theorem eval_pmul (a : Poly) {b : Poly} (hb : b ≠ []) (x : Byte) :
    eval (pmul a b) x = gmul (eval a x) (eval b x) := by
  rw [pmul, eval_norm, eval_convolve a hb]

theorem eval_linear (c x : Byte) : eval [1#8, c] x = x ^^^ c := by
  rw [eval, List.foldl_cons, gmul_zero_left, BitVec.zero_xor, List.foldl_cons, gmul_one_left, List.foldl_nil]

/-- R140: every root of the factors so far is kept, and the next factor adds its own. -/
theorem eval_pgen {n i : Nat} (hi : i < n) : eval (pgen n) (alphaPow i) = 0#8 := by
  induction n with
  | zero => cases hi
  | succ n ih =>
    rw [pgen_succ, eval_pmul _ (List.cons_ne_nil _ _)]
    obtain hlt | rfl := Nat.lt_succ_iff_lt_or_eq.mp hi
    · rw [ih hlt, gmul_zero_left]
    · rw [eval_linear, gexp_natCast, BitVec.xor_self, gmul_zero_right]

end Sys2Proof.Machine
end

section
/-!
PROOFS. The polynomial commands (O26 to O32): a normal end writes the polynomial function's answer to P[D], and the
range check of STAGE (R142, R143) and `fit` (R137) are the only errors besides the zero divisor (R146).
-/

namespace Sys2Proof.Machine

open Sys2Proof.Claims

variable {s : State} {d a b : PReg}

/-! ## The commands -/

theorem exec_pLoad (len : BitVec 9) : exec (.pLoad d len) s = s.finish (pLoadBody d len s) := rfl

theorem exec_pStore : exec (.pStore a) s = s.finish (pStoreBody a s) := rfl

theorem exec_pShl (n : BitVec 8) :
    exec (.pShl d a n) s = s.finish (s.writePoly d (shiftLeft (s.poly a) n.toNat)) := rfl

theorem exec_pMul : exec (.pMul d a b) s = s.finish (s.writePoly d (pmul (s.poly a) (s.poly b))) := rfl

theorem exec_pMod : exec (.pMod d a b) s = s.finish (pModBody d a b s) := rfl

theorem exec_pMod_of_ne_zero (hb : s.poly b ≠ [0#8]) :
    exec (.pMod d a b) s = .next (s.setPoly d (pmod (s.poly a) (s.poly b))).normalEnd := by
  rw [exec_pMod, pModBody_eq_ok.mpr ⟨hb, rfl⟩, State.finish_ok]

theorem exec_pMod_of_zero (hb : s.poly b = [0#8]) :
    exec (.pMod d a b) s = .next (s.errorEnd (.fieldArithmeticDomainError 0#32)) := by
  rw [exec_pMod, pModBody, if_pos hb, State.finish_error]

theorem exec_pGen (n : BitVec 8) : exec (.pGen d n) s = .next (s.setPoly d (pgen n.toNat)).normalEnd := rfl

/-! ## How a write of a polynomial ends -/

@[simp] theorem poly_setPoly_same (s : State) (d : PReg) (q : Poly) : (s.setPoly d q).poly d = q := by
  rw [State.poly, State.setPoly_p]
  exact Vector.getElem_set_self _

theorem finish_writePoly_of_fits {q : Poly} (hq : q.length ≤ 256) :
    s.finish (s.writePoly d q) = .next (s.setPoly d q).normalEnd := by
  rw [(State.writePoly_eq_ok s).mpr ⟨hq, rfl⟩, State.finish_ok]

theorem finish_writePoly_of_long {q : Poly} {n : Nat} (hlen : q.length = n) (hlong : 256 < n) :
    s.finish (s.writePoly d q)
      = .next (s.errorEnd (.resourceOverflow .polynomialLength (Word.ofNat n))) := by
  subst hlen
  rw [State.writePoly, fit, if_pos hlong]
  rfl

/-! ## STAGE -/

/-- A range that leaves STAGE ends the command before the rest of its pseudocode (R142, R143). -/
theorem finish_checkStage_of_outside {n : Nat} (h : 8192 < s.arg0.toNat + n) (f : Unit → Result) :
    s.finish (s.checkStage n >>= f) = .next (s.errorEnd (.invalidParameter .stageRange s.arg0)) := by
  rw [s.checkStage_eq_error.mpr ⟨h, rfl⟩, bind_error, State.finish_error]

theorem Memory.drop_readBytes (m : Memory) (off n k : Nat) :
    (m.readBytes off n).drop k = m.readBytes (off + k) (n - k) := by
  refine List.ext_getElem (by simp) fun i _ _ => ?_
  simp [Memory.readBytes, Nat.add_assoc]

/-- R142: the bytes before the first that is not 0 are stripped, all but the last of a range of zeros. -/
theorem exists_norm_readBytes (m : Memory) (off : Nat) {n : Nat} (hpos : 1 ≤ n) :
    ∃ k < n, (∀ j < k, m.read (off + j) = 0#8) ∧ norm (m.readBytes off n) = m.readBytes (off + k) (n - k) := by
  have hlen := m.length_readBytes off n
  have hsplit := zeros_append_norm (List.ne_nil_of_length_pos (hpos.trans_eq hlen.symm))
  have hnorm := List.length_pos_of_ne_nil (norm_ne_nil (m.readBytes off n))
  rw [hlen] at hsplit
  generalize hk : n - (norm (m.readBytes off n)).length = k at hsplit
  refine ⟨k, by omega, fun j hj => ?_, ?_⟩
  · have hzero := congrArg (·[j]?) hsplit
    simpa [Memory.readBytes, List.getElem?_append, hj, show j < n by omega] using hzero.symm
  · rw [← m.drop_readBytes, ← hsplit, List.drop_left' List.length_replicate, hsplit]

/-- Settles O26: what was read is the loaded polynomial with some zeros in front. -/
theorem pLoadStripsLeadingZeros : Obligations.PLoadStripsLeadingZeros := by
  unfold Obligations.PLoadStripsLeadingZeros
  refine fun s d len hpos hmax => ⟨fun hin => ?inside, fun hout => ?outside⟩
  case inside =>
    obtain ⟨k, hk, hzeros, hq⟩ := exists_norm_readBytes s.stage s.arg0.toNat hpos
    have hfits : (norm (s.stage.readBytes s.arg0.toNat len.toNat)).length ≤ 256 := by
      rw [hq, Memory.length_readBytes]
      omega
    refine ⟨k, _, ?_, polyOk_iff.mpr ⟨normalized_norm _, hfits⟩, poly_setPoly_same s d _, hk, hzeros, hq⟩
    rw [exec_pLoad, pLoadBody_eq_ok.mpr ⟨hin, hfits, rfl⟩, State.finish_ok]
  case outside => exact finish_checkStage_of_outside hout _

/-- Settles O27: the coefficients are stored from ARG0 on, and a store of several bytes reads back byte by byte. -/
theorem pStoreWritesOnlyItsRange : Obligations.PStoreWritesOnlyItsRange := by
  unfold Obligations.PStoreWritesOnlyItsRange
  refine fun s a => ⟨fun hin => ?inside, fun hout => ?outside⟩
  case inside =>
    refine ⟨s.stage.writeBytes s.arg0.toNat (s.poly a), ?_, Memory.read_writeBytes _ _ _⟩
    rw [exec_pStore, pStoreBody_eq_ok.mpr ⟨hin, rfl⟩, State.finish_ok, State.setResult]
  case outside => exact finish_checkStage_of_outside hout _

/-- Settles O28: a shift is the zero polynomial or n coefficients longer, and `fit` decides. -/
theorem pShlAppendsZeros : Obligations.PShlAppendsZeros := by
  unfold Obligations.PShlAppendsZeros
  intro s d a n
  rw [exec_pShl, shiftLeft]
  refine ⟨fun hzero => ?_, fun hne hfits => ?_, fun hne hlong => ?_⟩
  · rw [if_pos hzero, finish_writePoly_of_fits (by decide)]
  · rw [if_neg hne, finish_writePoly_of_fits (by rwa [List.length_append, List.length_replicate])]
  · rw [if_neg hne, finish_writePoly_of_long (by rw [List.length_append, List.length_replicate]) hlong]

/-- Settles O29: without a zero operand the product is the convolution itself, coefficients and length. -/
theorem pMulIsTheConvolution : Obligations.PMulIsTheConvolution := by
  unfold Obligations.PMulIsTheConvolution
  intro s d a b hx hy
  obtain ⟨hx, -⟩ := polyOk_iff.mp hx
  obtain ⟨hy, -⟩ := polyOk_iff.mp hy
  have hynil := ne_nil_of_normalized hy
  have hlen := convolve_length (s.poly a) (s.poly b) hynil
  rw [exec_pMul]
  refine ⟨fun hzero => ?_, fun hx0 hy0 hfits => ?_, fun hx0 hy0 hlong => ?_⟩
  · rw [pmul_of_zero hynil hzero, finish_writePoly_of_fits (by decide)]
  · rw [pmul_of_ne_zero hx hx0 hy hy0]
    exact ⟨_, finish_writePoly_of_fits (hlen.trans_le hfits), hlen, fun k _ => getD_convolve _ hynil k⟩
  · rw [pmul_of_ne_zero hx hx0 hy hy0, finish_writePoly_of_long hlen hlong]

/-- Settles O30: the loop of R139 ends below the divisor, and on a remainder it makes no pass. -/
theorem pModLeavesALowerDegree : Obligations.PModLeavesALowerDegree := by
  unfold Obligations.PModLeavesALowerDegree
  refine fun s d a b ha hb => ⟨exec_pMod_of_zero, fun hb0 => ?_⟩
  have hna := (polyOk_iff.mp ha).1
  have hlow := pmod_shorter hna (polyOk_iff.mp hb).1 hb0
  exact ⟨_, exec_pMod_of_ne_zero hb0, polyOk_pmod ha, hlow, length_pmodLoop_le _ hna,
    fun hshort => pmodLoop_of_reduced (.inr hshort) _, pmodLoop_of_reduced hlow _⟩

/-- Settles O31: the passes of R139 are a schoolbook division. -/
theorem pModIsTheRemainder : Obligations.PModIsTheRemainder := by
  unfold Obligations.PModIsTheRemainder
  intro s d a b ha hb hb0 hlen
  have hna := (polyOk_iff.mp ha).1
  obtain ⟨q, hq, hcoeffs⟩ := exists_quotient_pmod hna (polyOk_iff.mp hb).1 hb0 hlen
  exact ⟨q, _, exec_pMod_of_ne_zero hb0, hq, length_pmodLoop_le _ hna, fun k _ => hcoeffs k⟩

/-- Settles O32: a product of monic linear factors is monic and keeps the root of each of them. -/
theorem pGenHasTheGeneratorsRoots : Obligations.PGenHasTheGeneratorsRoots := by
  unfold Obligations.PGenHasTheGeneratorsRoots
  intro s d n
  obtain ⟨g, hg, -⟩ := pgen_monic n.toNat
  have hfits : (pgen n.toNat).length ≤ 256 := by rw [length_pgen]; exact n.isLt
  exact ⟨_, exec_pGen n, length_pgen _, by rw [hg, List.head?_cons],
    polyOk_iff.mpr ⟨normalized_pgen _, hfits⟩, fun i hi => eval_pgen hi⟩

end Sys2Proof.Machine
end

section
/-!
PROOFS. The segment packing command (O35 to O37): each payload packs its bytes group by group into fields of one width,
the validation stops at the first group that is no character of the mode, and BW.SEG is one append after it.
-/

namespace Sys2Proof.Machine

open Sys2Proof.Claims

variable {mode : SegMode} {s : State} {off n k w : Nat}

/-! ## Reading fields out of bits -/

@[simp] theorem bitsOfFields_nil : bitsOfFields [] = [] := rfl

@[simp] theorem bitsOfFields_cons (value width : Nat) (fields : List BitField) :
    bitsOfFields ((value, width) :: fields) = bitsMsbFirst value width ++ bitsOfFields fields := rfl

/-- The first field reads back as its value (R112). -/
theorem fieldAt_zero (value width : Nat) (rest : List Bool) :
    fieldAt (bitsMsbFirst value width ++ rest) 0 width = value % 2 ^ width := by
  rw [fieldAt, List.drop_zero, List.take_left' (length_bitsMsbFirst _ _), numberOfBits_bitsMsbFirst]

theorem fieldAt_drop (bits : List Bool) (at_ width : Nat) :
    fieldAt bits at_ width = fieldAt (bits.drop at_) 0 width := by
  rw [fieldAt, fieldAt, List.drop_zero]

/-! ## Payloads pack groups of bytes -/

theorem Memory.readBytes_succ (m : Memory) (off n : Nat) :
    m.readBytes off (n + 1) = m.read off :: m.readBytes (off + 1) n := by
  simp [Memory.readBytes, List.range_succ_eq_map, Function.comp_def, Nat.add_assoc, Nat.add_comm 1]

theorem Memory.readBytes_zero (m : Memory) (off : Nat) : m.readBytes off 0 = [] := rfl

/-- A payload packs its bytes k at a time, each group into a field of w bits, as long as a whole group is left. -/
def PacksGroups (payload : List Byte → List BitField) (k w : Nat) : Prop :=
  ∀ bytes, k ≤ bytes.length → ∃ value, payload bytes = (value, w) :: payload (bytes.drop k)

theorem packsGroups_numeric : PacksGroups numericPayload 3 10
  | _ :: _ :: _ :: _, _ => ⟨_, rfl⟩

theorem packsGroups_alnum : PacksGroups alnumPayload 2 11
  | _ :: _ :: _, _ => ⟨_, rfl⟩

theorem packsGroups_byte : PacksGroups bytePayload 1 8
  | _ :: _, _ => ⟨_, rfl⟩

theorem packsGroups_kanji : PacksGroups kanjiPayload 2 13
  | _ :: _ :: _, _ => ⟨_, rfl⟩

section
variable {payload : List Byte → List BitField} (h : PacksGroups payload k w)
include h

/-- Past the bits of g groups stands the payload of the bytes past them. -/
theorem PacksGroups.drop_bits (g : Nat) {bytes : List Byte} (hg : k * g ≤ bytes.length) :
    (bitsOfFields (payload bytes)).drop (w * g) = bitsOfFields (payload (bytes.drop (k * g))) := by
  induction g generalizing bytes with
  | zero => rfl
  | succ g ih =>
    rw [Nat.mul_succ] at hg
    obtain ⟨value, hvalue⟩ := h bytes (by omega)
    rw [hvalue, bitsOfFields_cons, Nat.mul_succ, Nat.add_comm (w * g), ← List.drop_drop,
      List.drop_left' (length_bitsMsbFirst _ _), ih (by rw [List.length_drop]; omega), List.drop_drop,
      Nat.mul_succ, Nat.add_comm k]

/-- What the payload of STAGE bytes says after g groups, the payload of the bytes after them says first. -/
theorem PacksGroups.fieldAt_readBytes (m : Memory) (off width : Nat) {g r : Nat} (hn : n = k * g + r) :
    fieldAt (bitsOfFields (payload (m.readBytes off n))) (w * g) width
      = fieldAt (bitsOfFields (payload (m.readBytes (off + k * g) r))) 0 width := by
  rw [fieldAt_drop, h.drop_bits g (by rw [Memory.length_readBytes]; omega), Memory.drop_readBytes,
    hn, Nat.add_sub_cancel_left]

end

/-! ## The lengths (R164) -/

theorem length_numericPayload (bytes : List Byte) :
    (bitsOfFields (numericPayload bytes)).length = payloadLength .numeric bytes.length := by
  induction bytes using numericPayload.induct with
  | case1 a b c rest ih =>
    simp only [numericPayload, bitsOfFields_cons, List.length_append, length_bitsMsbFirst, ih, payloadLength,
      List.length_cons, Nat.add_assoc, Nat.add_mod_right, Nat.reduceAdd]
    omega
  | case2 a b => simp [numericPayload, payloadLength]
  | case3 a => simp [numericPayload, payloadLength]
  | case4 => rfl

theorem length_alnumPayload (bytes : List Byte) :
    (bitsOfFields (alnumPayload bytes)).length = payloadLength .alphanumeric bytes.length := by
  induction bytes using alnumPayload.induct with
  | case1 a b rest ih =>
    simp only [alnumPayload, bitsOfFields_cons, List.length_append, length_bitsMsbFirst, ih, payloadLength,
      List.length_cons]
    omega
  | case2 a => simp [alnumPayload, payloadLength]
  | case3 => rfl

theorem length_bytePayload (bytes : List Byte) :
    (bitsOfFields (bytePayload bytes)).length = payloadLength .byte bytes.length := by
  induction bytes with
  | nil => rfl
  | cons b rest ih =>
    rw [show bytePayload (b :: rest) = (b.toNat, 8) :: bytePayload rest from rfl, bitsOfFields_cons, List.length_append,
      length_bitsMsbFirst, ih, payloadLength, payloadLength, List.length_cons]
    omega

theorem length_kanjiPayload (bytes : List Byte) :
    (bitsOfFields (kanjiPayload bytes)).length = payloadLength .kanji bytes.length := by
  induction bytes using kanjiPayload.induct with
  | case1 a b rest ih =>
    simp only [kanjiPayload, bitsOfFields_cons, List.length_append, length_bitsMsbFirst, ih, payloadLength,
      List.length_cons]
    omega
  | case2 bytes hshort =>
    match bytes, hshort with
    | [], _ => rfl
    | [_], _ => simp [kanjiPayload, payloadLength]
    | a :: b :: rest, hshort => exact (hshort a b rest rfl).elim

/-- The bits of a payload are as many as R164 says, for an odd Kanji byte too, which adds none. -/
theorem length_segmentPayload (mode : SegMode) (bytes : List Byte) :
    (bitsOfFields (segmentPayload mode bytes)).length = payloadLength mode bytes.length := by
  cases mode with
  | numeric => exact length_numericPayload bytes
  | alphanumeric => exact length_alnumPayload bytes
  | byte => exact length_bytePayload bytes
  | kanji => exact length_kanjiPayload bytes

/-- R158: the model's width of the count indicator is the table's. -/
theorem countWidth_eq (mode : SegMode) (v : Nat) : countWidth mode v = widthTable mode v := by
  unfold countWidth widthTable
  cases mode <;> split_ifs <;> rfl

/-- The bits BW.SEG puts before the payload: the mode indicator and the count (R157, R158). -/
def segmentHeader (mode : SegMode) (v n : Nat) : List Bool :=
  bitsMsbFirst (modeIndicator mode) 4 ++
    bitsMsbFirst (segmentCount mode n % 2 ^ widthTable mode v) (widthTable mode v)

theorem length_segmentHeader (mode : SegMode) (v n : Nat) :
    (segmentHeader mode v n).length = 4 + widthTable mode v := by
  rw [segmentHeader, List.length_append, length_bitsMsbFirst, length_bitsMsbFirst]

theorem fieldAt_segmentHeader_indicator (mode : SegMode) (v n : Nat) :
    fieldAt (segmentHeader mode v n) 0 4 = modeIndicator mode % 2 ^ 4 := fieldAt_zero _ _ _

theorem fieldAt_segmentHeader_count (mode : SegMode) (v n : Nat) :
    fieldAt (segmentHeader mode v n) 4 (widthTable mode v) = segmentCount mode n % 2 ^ widthTable mode v := by
  rw [fieldAt_drop, segmentHeader, List.drop_left' (length_bitsMsbFirst _ _),
    ← List.append_nil (bitsMsbFirst _ (widthTable mode v)), fieldAt_zero, Nat.mod_mod]

theorem bitsOfFields_segmentFields (mode : SegMode) (v : Nat) (bytes : List Byte) :
    bitsOfFields (segmentFields mode v bytes)
      = segmentHeader mode v bytes.length ++ bitsOfFields (segmentPayload mode bytes) := by
  simp [segmentFields, segmentHeader, countWidth_eq]

theorem length_segmentFields (mode : SegMode) (v : Nat) (bytes : List Byte) :
    (bitsOfFields (segmentFields mode v bytes)).length = 4 + widthTable mode v + payloadLength mode bytes.length := by
  rw [bitsOfFields_segmentFields, List.length_append, length_segmentHeader, length_segmentPayload]

/-- Settles O36: each group adds its field, and the header is two fields more. -/
theorem segmentBitLengths : Obligations.SegmentBitLengths := by
  unfold Obligations.SegmentBitLengths
  exact fun mode v bytes _ _ _ => ⟨length_segmentPayload mode bytes, length_segmentFields mode v bytes⟩

/-! ## The payload of each mode (R159 to R162) -/

/-- The bytes of the segment (R163). -/
abbrev segmentBytes (s : State) : List Byte := s.stage.readBytes s.arg0.toNat s.arg1.toNat

/-- R159: the digits of a group, in the group's field. -/
theorem payloadOk_numeric (hok : segmentOk .numeric s) :
    payloadOk .numeric s (bitsOfFields (numericPayload (segmentBytes s))) := by
  refine ⟨fun g hg => ?three, fun hrem => ?two, fun hrem => ?one⟩
  all_goals simp only [segmentOk, segByte] at hok ⊢
  case three =>
    have ha := hok (3 * g) (by omega)
    have hb := hok (3 * g + 1) (by omega)
    have hc := hok (3 * g + 2) (by omega)
    obtain ⟨r, hr⟩ : ∃ r, s.arg1.toNat = 3 * g + (r + 3) := ⟨s.arg1.toNat - 3 * g - 3, by omega⟩
    simp only [packsGroups_numeric.fieldAt_readBytes _ _ _ hr, Memory.readBytes_succ, numericPayload, bitsOfFields_cons,
      fieldAt_zero, digitValue, Nat.add_assoc, Nat.reduceAdd]
    omega
  case two =>
    have hr : s.arg1.toNat = 3 * (s.arg1.toNat / 3) + 2 := by omega
    have hfirst : s.arg1.toNat - 2 = 3 * (s.arg1.toNat / 3) := by omega
    have hlast : s.arg1.toNat - 1 = 3 * (s.arg1.toNat / 3) + 1 := by omega
    have ha := hok (3 * (s.arg1.toNat / 3)) (by omega)
    have hb := hok (3 * (s.arg1.toNat / 3) + 1) (by omega)
    simp only [packsGroups_numeric.fieldAt_readBytes _ _ _ hr, Memory.readBytes_succ, numericPayload, bitsOfFields_cons,
      fieldAt_zero, digitValue, Nat.add_assoc, hfirst, hlast, Memory.readBytes_zero]
    omega
  case one =>
    have hr : s.arg1.toNat = 3 * (s.arg1.toNat / 3) + 1 := by omega
    have hlast : s.arg1.toNat - 1 = 3 * (s.arg1.toNat / 3) := by omega
    have ha := hok (3 * (s.arg1.toNat / 3)) (by omega)
    simp only [packsGroups_numeric.fieldAt_readBytes _ _ _ hr, Memory.readBytes_succ, numericPayload, bitsOfFields_cons,
      fieldAt_zero, digitValue, hlast, Memory.readBytes_zero]
    omega

/-- R160: a byte of the alphabet has its place in it as its code, and no other byte has a code. -/
theorem alnumCode_eq : ∀ b : Byte,
    alnumCode b = if b.toNat ∈ alphabet then some (alphabet.idxOf b.toNat) else none := by
  decide +kernel

theorem isSome_alnumCode (b : Byte) : (alnumCode b).isSome = true ↔ b.toNat ∈ alphabet := by
  rw [alnumCode_eq]
  split <;> simp [*]

theorem alnumValue_eq {b : Byte} (hb : b.toNat ∈ alphabet) : alnumValue b = alphabet.idxOf b.toNat := by
  rw [alnumValue, alnumCode_eq, if_pos hb, Option.getD_some]

theorem idxOf_alphabet_lt {c : Nat} (hc : c ∈ alphabet) : alphabet.idxOf c < 45 := List.idxOf_lt_length_of_mem hc

/-- R160: the codes of a pair, in the pair's field. -/
theorem payloadOk_alnum (hok : segmentOk .alphanumeric s) :
    payloadOk .alphanumeric s (bitsOfFields (alnumPayload (segmentBytes s))) := by
  refine ⟨fun g hg => ?pair, fun hrem => ?single⟩
  all_goals simp only [segmentOk, segByte] at hok ⊢
  case pair =>
    have ha := hok (2 * g) (by omega)
    have hb := hok (2 * g + 1) (by omega)
    have ha' := idxOf_alphabet_lt ha
    have hb' := idxOf_alphabet_lt hb
    obtain ⟨r, hr⟩ : ∃ r, s.arg1.toNat = 2 * g + (r + 2) := ⟨s.arg1.toNat - 2 * g - 2, by omega⟩
    simp only [packsGroups_alnum.fieldAt_readBytes _ _ _ hr, Memory.readBytes_succ, alnumPayload, bitsOfFields_cons,
      fieldAt_zero, Nat.add_assoc, alnumValue_eq ha, alnumValue_eq hb]
    omega
  case single =>
    have hr : s.arg1.toNat = 2 * (s.arg1.toNat / 2) + 1 := by omega
    have hlast : s.arg1.toNat - 1 = 2 * (s.arg1.toNat / 2) := by omega
    have ha := hok (2 * (s.arg1.toNat / 2)) (by omega)
    have ha' := idxOf_alphabet_lt ha
    simp only [packsGroups_alnum.fieldAt_readBytes _ _ _ hr, Memory.readBytes_succ, Memory.readBytes_zero, alnumPayload,
      bitsOfFields_cons, fieldAt_zero, hlast, alnumValue_eq ha]
    omega

/-- R161: the bytes themselves. -/
theorem payloadOk_byte (s : State) : payloadOk .byte s (bitsOfFields (bytePayload (segmentBytes s))) := by
  intro g hg
  have ha := (s.stage.read (s.arg0.toNat + 1 * g)).isLt
  obtain ⟨r, hr⟩ : ∃ r, s.arg1.toNat = 1 * g + (r + 1) := ⟨s.arg1.toNat - g - 1, by omega⟩
  rw [packsGroups_byte.fieldAt_readBytes _ _ _ hr, Memory.readBytes_succ, bytePayload, List.map_cons, bitsOfFields_cons,
    fieldAt_zero, Nat.mod_eq_of_lt ha, segByte, Nat.one_mul]

/-- R162: a pair of the two ranges has a value of thirteen bits. -/
theorem kanjiValue_mod {c : Nat} (hc : kanjiOk c) :
    kanjiValue c % 2 ^ 13 = (if c ≤ 0x9FFC then c - 0x8140 else c - 0xC140) / 256 * 0xC0 +
      (if c ≤ 0x9FFC then c - 0x8140 else c - 0xC140) % 256 := by
  rcases hc with ⟨hlo, hhi⟩ | ⟨hlo, hhi⟩
  · rw [kanjiValue, if_pos ⟨hlo, hhi⟩, if_pos hhi]
    omega
  · rw [kanjiValue, if_neg (by omega), if_neg (by omega)]
    omega

/-- R162: the value of a pair, in the pair's field. -/
theorem payloadOk_kanji (hok : segmentOk .kanji s) :
    payloadOk .kanji s (bitsOfFields (kanjiPayload (segmentBytes s))) := by
  obtain ⟨heven, hpairs⟩ := hok
  intro g hg
  have hpair := hpairs (2 * g) (by omega) (by omega)
  obtain ⟨r, hr⟩ : ∃ r, s.arg1.toNat = 2 * g + (r + 2) := ⟨s.arg1.toNat - 2 * g - 2, by omega⟩
  rw [packsGroups_kanji.fieldAt_readBytes _ _ _ hr, Memory.readBytes_succ, Memory.readBytes_succ, kanjiPayload,
    bitsOfFields_cons, fieldAt_zero]
  exact kanjiValue_mod hpair

theorem payloadOk_of_segmentOk (hok : segmentOk mode s) :
    payloadOk mode s (bitsOfFields (segmentPayload mode (segmentBytes s))) := by
  cases mode with
  | numeric => exact payloadOk_numeric hok
  | alphanumeric => exact payloadOk_alnum hok
  | byte => exact payloadOk_byte s
  | kanji => exact payloadOk_kanji hok

/-! ## Validation: the lowest offset first (R163) -/

theorem isDigit_iff (b : Byte) : isDigit b = true ↔ 0x30 ≤ b.toNat ∧ b.toNat ≤ 0x39 := by
  simp [isDigit]

theorem isKanjiPair_iff (c : Nat) : isKanjiPair c = true ↔ kanjiOk c := by
  simp [isKanjiPair]

section
variable {ok : Byte → Bool} {m : Memory}

/-- The model reports a value zero-extended, the statements as a number's word. -/
theorem setWidth_eq_ofNat {w : Nat} (x : BitVec w) : x.setWidth 32 = Word.ofNat x.toNat :=
  (BitVec.ofNat_toNat 32 x).symm

/-- Validation passes over k characters of the mode. -/
theorem firstInvalidByte_readBytes_add (n : Nat) (h : ∀ j < k, ok (m.read (off + j)) = true) :
    firstInvalidByte ok off (m.readBytes off (k + n)) = firstInvalidByte ok (off + k) (m.readBytes (off + k) n) := by
  induction k generalizing off with
  | zero => rw [Nat.zero_add, Nat.add_zero]
  | succ k ih =>
    have hfirst : ok (m.read off) = true := h 0 k.succ_pos
    have hrest : ∀ j < k, ok (m.read (off + 1 + j)) = true := fun j hj => by
      rw [Nat.add_assoc, Nat.add_comm 1]
      exact h (j + 1) (Nat.succ_lt_succ hj)
    rw [Nat.succ_add, Memory.readBytes_succ, firstInvalidByte, if_pos hfirst, ih hrest, Nat.add_assoc, Nat.add_comm 1]

/-- The first byte that is no character of the mode is reported, with its place. -/
theorem firstInvalidByte_eq_some (hk : k < n) (h : ∀ j < k, ok (m.read (off + j)) = true)
    (hbad : ok (m.read (off + k)) ≠ true) :
    firstInvalidByte ok off (m.readBytes off n)
      = some (.invalidCharacter (Word.ofNat (m.read (off + k)).toNat) (Word.ofNat (off + k))) := by
  obtain ⟨r, rfl⟩ : ∃ r, n = k + (r + 1) := ⟨n - k - 1, by omega⟩
  rw [firstInvalidByte_readBytes_add _ h, Memory.readBytes_succ, firstInvalidByte, if_neg hbad,
    setWidth_eq_ofNat]

/-- Validation passes over g Kanji pairs. -/
theorem firstInvalidPair_readBytes_add {g : Nat} (n : Nat)
    (h : ∀ j < 2 * g, j % 2 = 0 → kanjiOk (pairValue (m.read (off + j)) (m.read (off + j + 1)))) :
    firstInvalidPair off (m.readBytes off (2 * g + n))
      = firstInvalidPair (off + 2 * g) (m.readBytes (off + 2 * g) n) := by
  induction g generalizing off with
  | zero => rw [Nat.mul_zero, Nat.zero_add, Nat.add_zero]
  | succ g ih =>
    have hfirst : isKanjiPair (pairValue (m.read off) (m.read (off + 1))) = true :=
      (isKanjiPair_iff _).mpr (h 0 (by omega) rfl)
    have hrest : ∀ j < 2 * g, j % 2 = 0 →
        kanjiOk (pairValue (m.read (off + 2 + j)) (m.read (off + 2 + j + 1))) := fun j hj heven => by
      rw [Nat.add_assoc off, Nat.add_comm 2]
      exact h (j + 2) (by omega) (by omega)
    rw [show 2 * (g + 1) + n = 2 * g + n + 1 + 1 by omega, Memory.readBytes_succ, Memory.readBytes_succ,
      firstInvalidPair, if_pos hfirst, ih hrest, Nat.add_assoc, Nat.mul_succ, Nat.add_comm 2]

end

/-- Bytes as R159 to R162 ask for raise no error. -/
theorem segmentError_of_segmentOk (hok : segmentOk mode s) :
    segmentError mode s.arg0.toNat (segmentBytes s) = none := by
  cases mode with
  | numeric => exact firstInvalidByte_readBytes_add 0 fun j hj => (isDigit_iff _).mpr (hok j hj)
  | alphanumeric => exact firstInvalidByte_readBytes_add 0 fun j hj => (isSome_alnumCode _).mpr (hok j hj)
  | byte => rfl
  | kanji =>
    obtain ⟨heven, hpairs⟩ := hok
    obtain ⟨g, hg⟩ : ∃ g, s.arg1.toNat = 2 * g := ⟨s.arg1.toNat / 2, by omega⟩
    rw [hg] at hpairs
    rw [segmentError, segmentBytes, hg]
    exact firstInvalidPair_readBytes_add 0 hpairs

/-- The first pair outside R162's ranges is reported, whatever follows it. -/
theorem segmentError_of_bad_pair (hk : k + 1 < s.arg1.toNat) (heven : k % 2 = 0)
    (hgood : ∀ j < k, j % 2 = 0 → kanjiOk (segPair s j)) (hbad : ¬ kanjiOk (segPair s k)) :
    segmentError .kanji s.arg0.toNat (segmentBytes s)
      = some (.invalidCharacter (Word.ofNat (segPair s k)) (Word.ofNat (s.arg0.toNat + k))) := by
  obtain ⟨g, rfl⟩ : ∃ g, k = 2 * g := ⟨k / 2, by omega⟩
  obtain ⟨r, hr⟩ : ∃ r, s.arg1.toNat = 2 * g + (r + 1 + 1) := ⟨s.arg1.toNat - 2 * g - 2, by omega⟩
  rw [segmentError, segmentBytes, hr, firstInvalidPair_readBytes_add _ hgood, Memory.readBytes_succ,
    Memory.readBytes_succ]
  exact if_neg (mt (isKanjiPair_iff _).mp hbad)

/-- After good pairs a byte without a partner is reported. -/
theorem segmentError_of_odd (hodd : s.arg1.toNat % 2 = 1)
    (hgood : ∀ j, j + 1 < s.arg1.toNat → j % 2 = 0 → kanjiOk (segPair s j)) :
    segmentError .kanji s.arg0.toNat (segmentBytes s)
      = some (.invalidCharacter (Word.ofNat (segByte s (s.arg1.toNat - 1)))
          (Word.ofNat (s.arg0.toNat + s.arg1.toNat - 1))) := by
  obtain ⟨g, hg⟩ : ∃ g, s.arg1.toNat = 2 * g + 1 := ⟨s.arg1.toNat / 2, by omega⟩
  rw [hg] at hgood
  rw [segmentError, segmentBytes, hg, firstInvalidPair_readBytes_add 1 fun j hj => hgood j (Nat.succ_lt_succ hj),
    Memory.readBytes_succ, Memory.readBytes_zero, firstInvalidPair, setWidth_eq_ofNat]
  rfl

/-! ## The command (R163) -/

theorem exec_bwSeg (mode : SegMode) (s : State) : exec (.bwSeg mode) s = s.finish (bwSegBody mode s) := rfl

theorem exec_bwSeg_of_bad_version (hv : ¬ versionOk s) :
    exec (.bwSeg mode) s = .next (s.errorEnd (.invalidParameter .version (s.version.setWidth 32))) := by
  rw [exec_bwSeg, bwSegBody, s.checkVersion_eq_error.mpr ⟨by omega, rfl⟩, bind_error, State.finish_error,
    setWidth_eq_ofNat]

section
variable (hv : versionOk s)
include hv

theorem exec_bwSeg_of_outside (hout : 8192 < s.arg0.toNat + s.arg1.toNat) :
    exec (.bwSeg mode) s = .next (s.errorEnd (.invalidParameter .stageRange s.arg0)) := by
  rw [exec_bwSeg, bwSegBody, s.checkVersion_eq_ok.mpr ⟨rfl, hv⟩, bind_ok]
  exact finish_checkStage_of_outside hout _

/-- With VERSION and range in order, BW.SEG raises the bytes' error or is one append. -/
theorem exec_bwSeg_of_inside (hin : s.arg0.toNat + s.arg1.toNat ≤ 8192) :
    exec (.bwSeg mode) s = s.finish ((segmentError mode s.arg0.toNat (segmentBytes s)).elim
      (s.append (bitsOfFields (segmentFields mode s.version.toNat (segmentBytes s)))) .error) := by
  rw [exec_bwSeg, bwSegBody, s.checkVersion_eq_ok.mpr ⟨rfl, hv⟩, bind_ok, State.arg1Unsigned,
    s.checkStage_eq_ok.mpr hin, bind_ok, State.arg0Unsigned]
  dsimp only
  cases segmentError mode s.arg0.toNat (segmentBytes s) with
  | none => rfl
  | some e => rfl

theorem exec_bwSeg_of_segmentError (hin : s.arg0.toNat + s.arg1.toNat ≤ 8192) {e : EngineError}
    (he : segmentError mode s.arg0.toNat (segmentBytes s) = some e) :
    exec (.bwSeg mode) s = .next (s.errorEnd e) := by
  rw [exec_bwSeg_of_inside hv hin, he, Option.elim_some, State.finish_error]

theorem exec_bwSeg_of_segmentOk (hin : s.arg0.toNat + s.arg1.toNat ≤ 8192) (hok : segmentOk mode s) :
    exec (.bwSeg mode) s
      = s.finish (s.append (bitsOfFields (segmentFields mode s.version.toNat (segmentBytes s)))) := by
  rw [exec_bwSeg_of_inside hv hin, segmentError_of_segmentOk hok, Option.elim_none]

end

theorem length_segmentBits (mode : SegMode) (s : State) :
    (bitsOfFields (segmentFields mode s.version.toNat (segmentBytes s))).length
      = 4 + widthTable mode s.version.toNat + payloadLength mode s.arg1.toNat := by
  rw [length_segmentFields, Memory.length_readBytes]

/-- Settles O35: the appended bits are the header's, then the payload's. -/
theorem bwSegAppendsTheSegment : Obligations.BwSegAppendsTheSegment := by
  unfold Obligations.BwSegAppendsTheSegment
  intro mode s hv hin hok n w total hfits
  refine ⟨segmentHeader mode s.version.toNat n, bitsOfFields (segmentPayload mode (segmentBytes s)), ?_,
    length_segmentHeader mode _ _, ?_, ?_, ?_, payloadOk_of_segmentOk hok⟩
  · rw [exec_bwSeg_of_segmentOk hv hin hok, finish_append_of_fits (length_segmentBits mode s) hfits,
      bitsOfFields_segmentFields, Memory.length_readBytes, List.append_assoc]
  · rw [length_segmentPayload, Memory.length_readBytes]
  · rw [fieldAt_segmentHeader_indicator]
    cases mode <;> rfl
  · rw [fieldAt_segmentHeader_count]
    cases mode <;> rfl

/-- Settles O37: VERSION, range, the bytes from the lowest on, then the capacity. -/
theorem bwSegReportsTheFirstError : Obligations.BwSegReportsTheFirstError := by
  unfold Obligations.BwSegReportsTheFirstError
  refine fun mode s => ⟨exec_bwSeg_of_bad_version, exec_bwSeg_of_outside, fun hv hin =>
    ⟨?digit, ?character, ?pair, ?odd, ?full⟩⟩
  case digit =>
    rintro k hk rfl hgood hbad
    exact exec_bwSeg_of_segmentError hv hin (firstInvalidByte_eq_some hk
      (fun j hj => (isDigit_iff _).mpr (hgood j hj)) (mt (isDigit_iff _).mp hbad))
  case character =>
    rintro k hk rfl hgood hbad
    exact exec_bwSeg_of_segmentError hv hin (firstInvalidByte_eq_some hk
      (fun j hj => (isSome_alnumCode _).mpr (hgood j hj)) (mt (isSome_alnumCode _).mp hbad))
  case pair =>
    rintro k hk heven rfl hgood hbad
    exact exec_bwSeg_of_segmentError hv hin (segmentError_of_bad_pair hk heven hgood hbad)
  case odd =>
    rintro rfl hodd hgood
    exact exec_bwSeg_of_segmentError hv hin (segmentError_of_odd hodd hgood)
  case full =>
    intro hok hfull
    rw [Nat.add_assoc, Nat.add_assoc, ← Nat.add_assoc 4] at hfull ⊢
    rw [exec_bwSeg_of_segmentOk hv hin hok, finish_append_of_full (length_segmentBits mode s) hfull]

end Sys2Proof.Machine
end

section
/-!
PROOFS. The block table (O38): the model's descriptors are those the statements name by dc_k and tc_k (R34, R171), and
check_blocks (R172) stands first in every command that uses the table.
-/

namespace Sys2Proof.Machine

open Sys2Proof.Claims

variable {s : State} {e : EngineError}

/-! ## The descriptors (R34, R171) -/

/-- Descriptor k by the numbers the statements name. -/
def blockAt (s : State) (k : Nat) : Block := { dc := dc s k, tc := tc s k }

theorem blockOfWord_eq (w : Word) : blockOfWord w = { dc := w.toNat % 65536, tc := w.toNat / 65536 } := by
  have hw : w.toNat / 65536 < 65536 := by omega
  simp [blockOfWord, BitVec.extractLsb'_toNat, Nat.shiftRight_eq_div_pow, Nat.mod_eq_of_lt hw]

theorem blockAt_eq (s : State) (k : Nat) : blockAt s k = blockOfWord (s.blktab.toList.getD k 0#32) := by
  rw [blockOfWord_eq]
  rfl

theorem valid_blockAt_iff (k : Nat) : (blockAt s k).valid = true ↔ descriptorOk s k := Block.valid_iff

section
variable (hcount : s.blkcnt.toNat ≤ 128)
include hcount

theorem State.blocks_eq : s.blocks = (List.range s.blkcnt.toNat).map (blockAt s) := by
  have htable : s.blktab.toList.map blockOfWord = (List.range 128).map (blockAt s) := by
    rw [← map_getD_range s.blktab.toList 0#32, List.map_map, Vector.length_toList]
    exact List.map_congr_left fun k _ => (blockAt_eq s k).symm
  rw [State.blocks, List.map_take, htable, ← List.map_take, List.take_range, Nat.min_eq_left hcount]

theorem length_blocks : s.blocks.length = s.blkcnt.toNat := by
  rw [State.blocks_eq hcount, List.length_map, List.length_range]

theorem getElem?_blocks {k : Nat} (hk : k < s.blkcnt.toNat) : s.blocks[k]? = some (blockAt s k) := by
  rw [State.blocks_eq hcount, List.getElem?_map, List.getElem?_range hk, Option.map_some]

theorem getD_map_blocks {k : Nat} (hk : k < s.blkcnt.toNat) (f : Block → Nat) :
    (s.blocks.map f).getD k 0 = f (blockAt s k) := by
  rw [List.getD_eq_getElem?_getD, List.getElem?_map, getElem?_blocks hcount hk, Option.map_some, Option.getD_some]

/-- A sum over the first descriptors (R171). -/
theorem sum_map_take_blocks (f : Block → Nat) {k : Nat} (hk : k ≤ s.blkcnt.toNat) :
    ((s.blocks.take k).map f).sum = sumBelow (fun j => f (blockAt s j)) k := by
  rw [State.blocks_eq hcount, ← List.map_take, List.take_range, Nat.min_eq_left hk, List.map_map]
  rfl

theorem sum_map_blocks (f : Block → Nat) :
    (s.blocks.map f).sum = sumBelow (fun j => f (blockAt s j)) s.blkcnt.toNat := by
  rw [← sum_map_take_blocks hcount f le_rfl, List.take_of_length_le (length_blocks hcount).le]

theorem dataOffset_blocks {k : Nat} (hk : k ≤ s.blkcnt.toNat) : dataOffset s.blocks k = sumBelow (dc s) k :=
  sum_map_take_blocks hcount (·.dc) hk

theorem checkOffset_blocks {k : Nat} (hk : k ≤ s.blkcnt.toNat) : checkOffset s.blocks k = sumBelow (ec s) k :=
  sum_map_take_blocks hcount Block.ec hk

theorem dataCodewords_blocks : dataCodewords s.blocks = sumBelow (dc s) s.blkcnt.toNat :=
  sum_map_blocks hcount (·.dc)

theorem checkCodewords_blocks : checkCodewords s.blocks = sumBelow (ec s) s.blkcnt.toNat :=
  sum_map_blocks hcount Block.ec

theorem totalCodewords_blocks : totalCodewords s.blocks = sumBelow (tc s) s.blkcnt.toNat :=
  sum_map_blocks hcount (·.tc)

theorem blockData_eq_blockBytes {k : Nat} (hk : k < s.blkcnt.toNat) : s.blockData s.blocks k = blockBytes s k := by
  rw [State.blockData, getD_map_blocks hcount hk, dataOffset_blocks hcount hk.le]
  rfl

theorem blockEcc_eq_blockEccBytes {k : Nat} (hk : k < s.blkcnt.toNat) : s.blockEcc s.blocks k = blockEccBytes s k := by
  rw [State.blockEcc, getD_map_blocks hcount hk, checkOffset_blocks hcount hk.le]
  rfl

end

/-! ## check_blocks (R172) -/

theorem checkDescriptors_of_bad_count (h : s.blkcnt.toNat = 0 ∨ 128 < s.blkcnt.toNat) :
    s.checkDescriptors = .error (.invalidParameter .blockTable 0xFFFFFFFF#32) := if_pos h

section
variable (hpos : 1 ≤ s.blkcnt.toNat) (hcount : s.blkcnt.toNat ≤ 128)
include hpos hcount

/-- "The first failing descriptor in block order is reported" (R172). -/
theorem checkDescriptors_of_bad_descriptor {k : Nat} (hk : k < s.blkcnt.toNat) (hbefore : ∀ j < k, descriptorOk s j)
    (hbad : ¬ descriptorOk s k) :
    s.checkDescriptors = .error (.invalidParameter .blockTable (Word.ofNat k)) := by
  have hfind : s.blocks.findIdx? (fun b => !b.valid) = some k := by
    rw [State.blocks_eq hcount, List.findIdx?_eq_some_iff_getElem]
    simpa [hk, valid_blockAt_iff, hbad, ← Bool.not_eq_true] using hbefore
  have hgood : ¬ (s.blkcnt.toNat = 0 ∨ s.blkcnt.toNat > Config.blkMax) := by
    simp only [Config.blkMax]
    omega
  rw [State.checkDescriptors, if_neg hgood, hfind]

theorem checkDescriptors_of_descriptorsOk (hok : ∀ k < s.blkcnt.toNat, descriptorOk s k) :
    s.checkDescriptors = .ok s.blocks := by
  refine s.checkDescriptors_eq_ok.mpr ⟨rfl, fun hzero => by simp [hzero] at hpos, hcount, fun b hb => ?_⟩
  rw [State.blocks_eq hcount] at hb
  obtain ⟨k, hk, rfl⟩ := List.mem_map.mp hb
  exact (valid_blockAt_iff k).mpr (hok k (List.mem_range.mp hk))

end

theorem checkTotal_of_full (hcount : s.blkcnt.toNat ≤ 128) (hfull : 4096 < sumBelow (tc s) s.blkcnt.toNat) :
    checkTotal s.blocks
      = .error (.resourceOverflow .codewordMemory (Word.ofNat (sumBelow (tc s) s.blkcnt.toNat))) := by
  rw [checkTotal, totalCodewords_blocks hcount]
  exact if_pos hfull

theorem blkcnt_le_of_tableOk (h : tableOk s) : s.blkcnt.toNat ≤ 128 := h.2.1

/-- A table that meets the bounds of R172 passes its checks. -/
theorem checkBlocks_of_tableOk (h : tableOk s) : s.checkBlocks = .ok s.blocks := by
  obtain ⟨hpos, hcount, hok, htotal⟩ := h
  rw [State.checkBlocks, checkDescriptors_of_descriptorsOk hpos hcount hok, bind_ok,
    checkTotal_eq_ok.mpr ((totalCodewords_blocks hcount).trans_le htotal), bind_ok]

/-! ## The commands that use the table -/

/-- check_blocks stands first in BW.FIN, RS.ALL and CW.ILV, and in Q.BUILD through BW.FIN. -/
theorem commandBody_of_checkBlocks_error {i : Instr} (hi : i = .bwFin ∨ i = .rsAll ∨ i = .cwIlv ∨ i = .qBuild)
    (he : s.checkBlocks = .error e) : commandBody i s = .error e := by
  have hfin : bwFinBody s = .error e := by rw [bwFinBody, he, bind_error]
  obtain rfl | rfl | rfl | rfl := hi
  · exact hfin
  · rw [commandBody, rsAllBody, he, bind_error]
  · rw [commandBody, cwIlvBody, he, bind_error]
  · rw [commandBody, qBuildBody, hfin, bind_error]

theorem exec_of_commandBody_error {i : Instr} (he : commandBody i s = .error e) :
    exec i s = .next ((errorBase i s).errorEnd e) := by
  rw [exec_eq, he, State.finishComposed_error]

theorem exec_bwFin (s : State) : exec .bwFin s = s.finish (bwFinBody s) := rfl

theorem exec_rsAll (s : State) : exec .rsAll s = s.finish (rsAllBody s) := rfl

theorem exec_cwIlv (s : State) : exec .cwIlv s = s.finish (cwIlvBody s) := rfl

theorem exec_rsBlock (k : BitVec 8) (s : State) : exec (.rsBlock k) s = s.finish (rsBlockBody k s) := rfl

theorem exec_rsBlock_of_checkDescriptors_error (k : BitVec 8) (he : s.checkDescriptors = .error e) :
    exec (.rsBlock k) s = .next (s.errorEnd e) := by
  rw [exec_rsBlock, rsBlockBody, he, bind_error, State.finish_error]

theorem exec_rsBlock_of_checkTotal_error {k : BitVec 8} (hok : s.checkDescriptors = .ok s.blocks)
    (hk : k.toNat < s.blkcnt.toNat) (he : checkTotal s.blocks = .error e) :
    exec (.rsBlock k) s = .next (s.errorEnd e) := by
  rw [exec_rsBlock, rsBlockBody, hok, bind_ok, s.checkBlockIndex_eq_ok.mpr hk, bind_ok, he, bind_error,
    State.finish_error]

theorem exec_rsBlock_of_bad_index {k : BitVec 8} (hok : s.checkDescriptors = .ok s.blocks)
    (hk : s.blkcnt.toNat ≤ k.toNat) :
    exec (.rsBlock k) s = .next (s.errorEnd (.invalidParameter .blockIndex (k.setWidth 32))) := by
  rw [exec_rsBlock, rsBlockBody_eq_index_error s hok hk, State.finish_error]

theorem exec_of_checkBlocks_error {i : Instr} (he : s.checkBlocks = .error e)
    (hi : i = .bwFin ∨ i = .rsAll ∨ i = .cwIlv) : exec i s = .next (s.errorEnd e) := by
  have hbase : errorBase i s = s := by obtain rfl | rfl | rfl := hi <;> rfl
  rw [exec_of_commandBody_error (commandBody_of_checkBlocks_error (by tauto) he), hbase]

theorem reports_qBuild_of_checkBlocks_error (he : s.checkBlocks = .error e) : reports .qBuild s e :=
  ⟨_, exec_of_commandBody_error (commandBody_of_checkBlocks_error (by simp) he), rfl, rfl, rfl, rfl⟩

/-- Settles O38: the table's parameters fail before anything else, the sum of tc after RS.BLOCK's index. -/
theorem blockTableChecks : Obligations.BlockTableChecks := by
  unfold Obligations.BlockTableChecks
  intro i s e count cause hcause
  have hcheck : (s.checkDescriptors = .error e ∧ e.code = .invalidParameter) ∨
      (s.checkDescriptors = .ok s.blocks ∧ checkTotal s.blocks = .error e ∧ e.code = .resourceOverflow) := by
    obtain ⟨hbad, rfl⟩ | ⟨hpos, hcount, k, hk, hbefore, hbad, rfl⟩ | ⟨hpos, hcount, hok, hfull, rfl⟩ := hcause
    · exact .inl ⟨checkDescriptors_of_bad_count hbad, rfl⟩
    · exact .inl ⟨checkDescriptors_of_bad_descriptor hpos hcount hk hbefore hbad, rfl⟩
    · exact .inr ⟨checkDescriptors_of_descriptorsOk hpos hcount hok, checkTotal_of_full hcount hfull, rfl⟩
  have hblocks : s.checkBlocks = .error e := by
    rw [State.checkBlocks]
    obtain ⟨hparam, -⟩ | ⟨hok, htotal, -⟩ := hcheck
    · rw [hparam, bind_error]
    · rw [hok, bind_ok, htotal, bind_error]
  refine ⟨exec_of_checkBlocks_error hblocks, ?_, by rintro rfl; exact reports_qBuild_of_checkBlocks_error hblocks⟩
  rintro k rfl
  obtain ⟨hparam, hcode⟩ | ⟨hok, htotal, hcode⟩ := hcheck
  · exact ⟨fun _ => exec_rsBlock_of_checkDescriptors_error k hparam, fun hres => by simp [hcode] at hres⟩
  · exact ⟨fun hk => exec_rsBlock_of_checkTotal_error hok (hk.resolve_left (by simp [hcode])) htotal,
      fun _ => exec_rsBlock_of_bad_index hok⟩

end Sys2Proof.Machine
end

section
/-!
PROOFS. Terminate and pad (O39): the padded buffer is the bits written, zeros to a byte boundary, and whole pad bytes
(R174).
-/

namespace Sys2Proof.Machine

open Sys2Proof.Claims

/-! ## Lists put together from parts -/

theorem sumBelow_succ (f : Nat → Nat) (k : Nat) : sumBelow f (k + 1) = sumBelow f k + f k := by
  simp [sumBelow, List.range_succ]

theorem sumBelow_const (c k : Nat) : sumBelow (fun _ => c) k = c * k := by
  simp [sumBelow, Nat.mul_comm]

theorem length_flatMap_range {α : Type} (f : Nat → List α) (n : Nat) :
    ((List.range n).flatMap f).length = sumBelow (fun j => (f j).length) n := List.length_flatMap

/-- Part k stands after the parts before it. -/
theorem exists_drop_flatMap_range {α : Type} (f : Nat → List α) {n k : Nat} (hk : k < n) :
    ∃ rest, ((List.range n).flatMap f).drop (sumBelow (fun j => (f j).length) k) = f k ++ rest := by
  obtain ⟨d, rfl⟩ := Nat.exists_eq_add_of_lt hk
  rw [Nat.add_assoc, List.range_add, List.flatMap_append, ← length_flatMap_range, List.drop_left,
    List.range_succ_eq_map, List.map_cons, List.flatMap_cons]
  exact ⟨_, rfl⟩

/-! ## The byte view (R36) -/

/-- The byte that eight bits at its place make. -/
theorem bbByte_of_drop {bb rest : List Bool} {k v : Nat} (h : bb.drop (8 * k) = bitsMsbFirst v 8 ++ rest) :
    bbByte bb k = BitVec.ofNat 8 v := by
  have hbits : (bb.drop (8 * k)).take 8 = bitsMsbFirst v 8 := by
    rw [h, List.take_left' (length_bitsMsbFirst v 8)]
  rw [bbByte, hbits, length_bitsMsbFirst, Nat.sub_self, List.replicate_zero, List.append_nil, numberOfBits_bitsMsbFirst]
  exact BitVec.eq_of_toNat_eq (by simp)

/-! ## Padding (R174) -/

/-- The first byte past the terminator's byte boundary. -/
def firstPadByte (len cap : Nat) : Nat := (len + (if 4 ≤ cap - len then 4 else 0) + 7) / 8

/-- The bits written, then zeros up to that boundary. -/
def byteAligned (bb : List Bool) (cap : Nat) : List Bool :=
  bb ++ List.replicate (8 * firstPadByte bb.length cap - bb.length) false

theorem length_byteAligned (bb : List Bool) (cap : Nat) :
    (byteAligned bb cap).length = 8 * firstPadByte bb.length cap := by
  rw [byteAligned, List.length_append, List.length_replicate, firstPadByte]
  omega

theorem getD_byteAligned {bb : List Bool} {j : Nat} (h : bb.length ≤ j) (cap : Nat) :
    (byteAligned bb cap).getD j false = false := by
  rw [byteAligned, List.getD_append_right _ _ _ _ h, List.getD_eq_getElem?_getD,
    List.getElem?_getD_replicate_default_eq]

/-- The terminator and the boundary's zeros are one run of zeros. -/
theorem append_terminator_boundaryZeros (bb : List Bool) (cap : Nat) :
    bb ++ terminator cap bb.length ++ boundaryZeros (bb ++ terminator cap bb.length).length = byteAligned bb cap := by
  rw [byteAligned, List.append_assoc, List.length_append, terminator, boundaryZeros, firstPadByte]
  split
  next =>
    rw [← List.replicate_add, List.length_replicate]
    congr 2
    omega
  next =>
    rw [List.nil_append, List.length_nil]
    congr 2
    omega

theorem padded_eq (bb : List Bool) (cap : Nat) :
    padded bb cap = byteAligned bb cap ++ padBytes (cap / 8 - firstPadByte bb.length cap) := by
  unfold padded
  dsimp only
  rw [append_terminator_boundaryZeros, length_byteAligned, Nat.sub_mul_div]

/-- Past the boundary "alternately with 0xEC then 0x11". -/
theorem bbByte_padded {bb : List Bool} {n k : Nat} (hk : firstPadByte bb.length (8 * n) + k < n) :
    bbByte (padded bb (8 * n)) (firstPadByte bb.length (8 * n) + k) = if k % 2 = 0 then 0xEC#8 else 0x11#8 := by
  obtain ⟨rest, hrest⟩ := exists_drop_flatMap_range
    (fun k => bitsMsbFirst (if k % 2 = 0 then 0xEC else 0x11) 8)
    (n := 8 * n / 8 - firstPadByte bb.length (8 * n)) (k := k) (by omega)
  simp only [length_bitsMsbFirst, sumBelow_const] at hrest
  have hdrop : (padded bb (8 * n)).drop (8 * (firstPadByte bb.length (8 * n) + k))
      = bitsMsbFirst (if k % 2 = 0 then 0xEC else 0x11) 8 ++ rest := by
    rw [padded_eq, Nat.mul_add, ← length_byteAligned, List.drop_length_add_append, ← hrest]
    rfl
  rw [bbByte_of_drop hdrop]
  split <;> rfl

/-! ## The command -/

theorem exec_bwFin_of_tableOk {s : State} (h : tableOk s) :
    exec .bwFin s = s.finish (if s.bb.length > totalDataBits s.blocks then
        .error (.capacityOverflow (Word.ofNat s.bb.length) (Word.ofNat (totalDataBits s.blocks)))
      else .ok { s with
        bb := padded s.bb (totalDataBits s.blocks),
        bitlen := Word.ofNat (padded s.bb (totalDataBits s.blocks)).length }) := by
  rw [exec_bwFin, bwFinBody, checkBlocks_of_tableOk h, bind_ok]

/-- Settles O39: the padded buffer is its three parts, each of the length the capacity leaves. -/
theorem bwFinPadsToCapacity : Obligations.BwFinPadsToCapacity := by
  unfold Obligations.BwFinPadsToCapacity
  intro s htable len cap first
  have hcap : totalDataBits s.blocks = cap := by rw [totalDataBits, dataCodewords_blocks (blkcnt_le_of_tableOk htable)]
  rw [exec_bwFin_of_tableOk htable, hcap]
  refine ⟨fun hfits => ?fits, fun hfull => by rw [if_pos hfull, State.finish_error]⟩
  have hlen : (padded s.bb cap).length = cap := length_padded (Nat.mul_mod_right 8 _) hfits
  refine ⟨padded s.bb cap, ?_, hlen, ?_, fun j hlow hhigh => ?_,
    fun k hk => bbByte_padded (Nat.lt_of_mul_lt_mul_left hk)⟩
  · rw [if_neg (Nat.not_lt.mpr hfits), State.finish_ok, hlen]
  · rw [padded_eq, byteAligned, List.append_assoc, List.take_left]
  · rw [padded_eq, List.getD_append _ _ _ _ (hhigh.trans_eq (length_byteAligned _ _).symm), getD_byteAligned hlow]

end Sys2Proof.Machine
end

section
/-!
PROOFS. Reed-Solomon blocks (O40 to O42): at a root of the generator a polynomial and its remainder take the same value,
so a block's data and its correction codewords cancel there (R175); RS.ALL stores the blocks' codewords as one run of
bytes (R176).
-/

namespace Sys2Proof.Machine

open Sys2Proof.Claims

/-! ## The remainder at a root of the divisor (R139) -/

theorem eq_of_getD_eq {a b : List Byte} (hlen : a.length = b.length) (h : ∀ k, a.getD k 0#8 = b.getD k 0#8) :
    a = b := by
  refine List.ext_getElem hlen fun k ha hb => ?_
  rw [← List.getD_eq_getElem a 0#8 ha, ← List.getD_eq_getElem b 0#8 hb, h]

theorem eval_pmod_of_root {a b : Poly} (ha : normalized a = true) (hb : normalized b = true) (hb0 : b ≠ [0#8])
    {x : Byte} (hroot : eval b x = 0#8) : eval (pmod a b) x = eval a x := by
  obtain hshort | hlong := Nat.lt_or_ge a.length b.length
  · rw [pmod, pmodLoop_of_reduced (.inr hshort)]
  · obtain ⟨q, hq, hcoeffs⟩ := exists_quotient_pmod ha hb hb0 hlong
    have hrem : (pmod a b).length ≤ a.length := length_pmodLoop_le _ ha
    have hconv := convolve_length q b (ne_nil_of_normalized hb)
    have hlens : (convolve q b).length
        = (List.replicate (a.length - (pmod a b).length) 0#8 ++ pmod a b).length := by
      rw [List.length_append, List.length_replicate]
      omega
    have hsum : a = xorCoeffs (convolve q b) (List.replicate (a.length - (pmod a b).length) 0#8 ++ pmod a b) := by
      refine eq_of_getD_eq ?_ fun k => ?_
      · rw [xorCoeffs, List.length_zipWith, ← hlens]
        omega
      · rw [hcoeffs, getD_xorCoeffs hlens, getD_convolve q (ne_nil_of_normalized hb)]
    conv_rhs => rw [hsum]
    rw [eval_xorCoeffs hlens, eval_convolve q (ne_nil_of_normalized hb), hroot, gmul_zero_right, BitVec.zero_xor,
      eval_append, eval_zeros, gmul_zero_left, BitVec.zero_xor]

/-! ## A block's codeword (R175) -/

theorem eval_zero (x : Byte) : eval [0#8] x = 0#8 := eval_zeros 1 x

theorem eval_shiftLeft (p : Poly) (n : Nat) (x : Byte) : eval (shiftLeft p n) x = gmul (eval p x) (gpow x n) := by
  unfold shiftLeft
  split
  next hzero => rw [hzero, eval_zero, gmul_zero_left]
  next => rw [eval_append, eval_zeros, BitVec.xor_zero, List.length_replicate]

/-- The leading zeros of a short remainder do not change its value. -/
theorem eval_correctionCodewords (data : List Byte) (n : Nat) (x : Byte) :
    eval (correctionCodewords data n) x = eval (pmod (shiftLeft (norm data) n) (pgen n)) x := by
  unfold correctionCodewords
  dsimp only
  split
  next hzero => rw [hzero, eval_zeros, eval_zero]
  next => rw [eval_append, eval_zeros, gmul_zero_left, BitVec.zero_xor]

theorem eval_append_correctionCodewords (data : List Byte) {n i : Nat} (hi : i < n) :
    eval (data ++ correctionCodewords data n) (alphaPow i) = 0#8 := by
  have hshift := normalized_shiftLeft n (normalized_norm data)
  rw [eval_append, length_correctionCodewords, eval_correctionCodewords,
    eval_pmod_of_root hshift (normalized_pgen n) (pgen_ne_zero n) (eval_pgen hi), eval_shiftLeft, eval_norm,
    BitVec.xor_self]

/-- Settles O41: the data shifted by n and the remainder take the same value at each root, so they cancel. -/
theorem blockWithItsCodewordsIsACodeword : Obligations.BlockWithItsCodewordsIsACodeword := by
  unfold Obligations.BlockWithItsCodewordsIsACodeword
  exact fun data n _ => ⟨length_correctionCodewords data n, fun _ => eval_append_correctionCodewords data⟩

/-! ## RS.BLOCK (R175) -/

variable {s : State}

/-- Block k's correction codewords. -/
def blockCheck (s : State) (k : Nat) : List Byte := correctionCodewords (blockBytes s k) (ec s k)

theorem length_blockCheck (s : State) (k : Nat) : (blockCheck s k).length = ec s k := length_correctionCodewords _ _

theorem eval_blockCheck (k : Nat) {i : Nat} (hi : i < ec s k) :
    eval (blockBytes s k ++ blockCheck s k) (alphaPow i) = 0#8 := eval_append_correctionCodewords _ hi

section
variable (hcount : s.blkcnt.toNat ≤ 128) {k : Nat} (hk : k < s.blkcnt.toNat)
include hcount hk

theorem getD_ec_blocks : (s.blocks.map (·.ec)).getD k 0 = ec s k := getD_map_blocks hcount hk Block.ec

theorem storeBlockEcc_blocks (m : Memory) :
    ({ s with ecc := m }).storeBlockEcc s.blocks k
      = { s with ecc := m.writeBytes (sumBelow (ec s) k) (blockCheck s k) } := by
  have hdata : ({ s with ecc := m }).blockData s.blocks k = blockBytes s k := blockData_eq_blockBytes hcount hk
  rw [State.storeBlockEcc, hdata, getD_ec_blocks hcount hk, checkOffset_blocks hcount hk.le]
  rfl

end

theorem exec_rsBlock_of_tableOk (h : tableOk s) {k : BitVec 8} (hk : k.toNat < s.blkcnt.toNat) :
    exec (.rsBlock k) s = .next ({ s with
      ecc := s.ecc.writeBytes (sumBelow (ec s) k.toNat) (blockCheck s k.toNat),
      result := Word.ofNat (ec s k.toNat) }).normalEnd := by
  have hcount := blkcnt_le_of_tableOk h
  rw [exec_rsBlock, (rsBlockBody_eq_ok s).mpr ⟨checkBlocks_of_tableOk h, hk, rfl⟩, State.finish_ok,
    getD_ec_blocks hcount hk, storeBlockEcc_blocks hcount hk s.ecc]
  rfl

/-- Settles O40: the block's codewords are stored as one run of bytes at its place in ECC. -/
theorem rsBlockStoresItsCodewords : Obligations.RsBlockStoresItsCodewords := by
  unfold Obligations.RsBlockStoresItsCodewords
  refine fun s k h => ⟨fun hk => ?_, ?_⟩
  · refine ⟨_, blockCheck s k.toNat, exec_rsBlock_of_tableOk h hk, length_blockCheck s _, fun i => eval_blockCheck _,
      fun b => ?_⟩
    rw [Memory.read_writeBytes, length_blockCheck]
  · obtain ⟨hpos, hcount, hok, -⟩ := h
    exact exec_rsBlock_of_bad_index (checkDescriptors_of_descriptorsOk hpos hcount hok)

/-! ## RS.ALL (R176) -/

theorem Memory.writeBytes_append (m : Memory) (off : Nat) (xs ys : List Byte) :
    m.writeBytes off (xs ++ ys) = (m.writeBytes off xs).writeBytes (off + xs.length) ys := by
  induction xs generalizing m off with
  | nil => rfl
  | cons x xs ih => rw [List.cons_append, Memory.writeBytes, ih, List.length_cons, Nat.add_assoc, Nat.add_comm 1,
      Memory.writeBytes]

/-- The correction codewords of the first n blocks, back to back. -/
def checksBelow (s : State) (n : Nat) : List Byte := (List.range n).flatMap (blockCheck s)

theorem length_checksBelow (s : State) (n : Nat) : (checksBelow s n).length = sumBelow (ec s) n := by
  rw [checksBelow, length_flatMap_range]
  simp only [length_blockCheck]

theorem checksBelow_succ (s : State) (n : Nat) : checksBelow s (n + 1) = checksBelow s n ++ blockCheck s n := by
  simp [checksBelow, List.range_succ]

theorem getD_checksBelow {n k i : Nat} (hk : k < n) (hi : i < ec s k) :
    (checksBelow s n).getD (sumBelow (ec s) k + i) 0#8 = (blockCheck s k).getD i 0#8 := by
  obtain ⟨rest, hrest⟩ := exists_drop_flatMap_range (blockCheck s) hk
  simp only [length_blockCheck] at hrest
  rw [List.getD_eq_getElem?_getD, ← List.getElem?_drop, checksBelow, hrest, ← List.getD_eq_getElem?_getD,
    List.getD_append _ _ _ _ (hi.trans_eq (length_blockCheck s k).symm)]

theorem sumBelow_monotone (f : Nat → Nat) : Monotone (sumBelow f) :=
  monotone_nat_of_le_succ fun n => (Nat.le_add_right _ _).trans_eq (sumBelow_succ f n).symm

theorem sumBelow_add_le (f : Nat → Nat) {k n : Nat} (hk : k < n) : sumBelow f k + f k ≤ sumBelow f n :=
  (sumBelow_succ f k).ge.trans (sumBelow_monotone f hk)

/-- Stored one block after another, they are one run of bytes from ECC[0] on. -/
theorem foldl_storeBlockEcc_eq (hcount : s.blkcnt.toNat ≤ 128) {n : Nat} (hn : n ≤ s.blkcnt.toNat) :
    (List.range n).foldl (fun (t : State) k => t.storeBlockEcc s.blocks k) s
      = { s with ecc := s.ecc.writeBytes 0 (checksBelow s n) } := by
  induction n with
  | zero => rfl
  | succ n ih =>
    rw [List.range_succ, List.foldl_append, ih (Nat.le_of_succ_le hn), List.foldl_cons, List.foldl_nil,
      storeBlockEcc_blocks hcount hn, checksBelow_succ, Memory.writeBytes_append, length_checksBelow, Nat.zero_add]

theorem exec_rsAll_of_tableOk (h : tableOk s) :
    exec .rsAll s = .next ({ s with
      ecc := s.ecc.writeBytes 0 (checksBelow s s.blkcnt.toNat),
      result := Word.ofNat (sumBelow (ec s) s.blkcnt.toNat) }).normalEnd := by
  have hcount := blkcnt_le_of_tableOk h
  have hbody := rsAllBody_eq_ok.mpr ⟨checkBlocks_of_tableOk h, rfl⟩
  rw [exec_rsAll, hbody, State.finish_ok, length_blocks hcount, foldl_storeBlockEcc_eq hcount le_rfl,
    checkCodewords_blocks hcount]
  rfl

/-- Settles O42: each block's codewords stand at its offset in the run. -/
theorem rsAllStoresEveryBlock : Obligations.RsAllStoresEveryBlock := by
  unfold Obligations.RsAllStoresEveryBlock
  refine fun s h => ⟨_, blockCheck s, exec_rsAll_of_tableOk h, fun k hk => ?_, fun b hb => ?_⟩
  · refine ⟨length_blockCheck s k, fun i => eval_blockCheck k, fun i hi => ?_⟩
    have hplace := (Nat.add_lt_add_left hi _).trans_le (sumBelow_add_le (ec s) hk)
    rw [Memory.read_writeBytes, length_checksBelow, if_pos ⟨Nat.zero_le _, hplace.trans_eq (Nat.zero_add _).symm⟩,
      Nat.sub_zero, getD_checksBelow hk hi]
  · rw [Memory.read_writeBytes, length_checksBelow, if_neg]
    omega

end Sys2Proof.Machine
end

section
/-!
PROOFS. Interleave (O43): the column-major stream of R177 is a permutation of its parts, and holds position i of part k
at its slot: after the columns before i, and in column i after the parts before k that reach it.
-/

namespace Sys2Proof.Machine

open Sys2Proof.Claims

/-! ## Columns -/

/-- Position i of the parts that have one, in part order. -/
def interleaveColumn (parts : List (List Byte)) (i : Nat) : List Byte := parts.filterMap (fun part => part[i]?)

/-- The number of columns. -/
def interleaveHeight (parts : List (List Byte)) : Nat := (parts.map (·.length)).foldl max 0

theorem interleave_eq (parts : List (List Byte)) :
    interleave parts = (List.range (interleaveHeight parts)).flatMap (interleaveColumn parts) :=
  rfl

theorem length_le_interleaveHeight {parts : List (List Byte)} {part : List Byte} (h : part ∈ parts) :
    part.length ≤ interleaveHeight parts := by
  rw [interleaveHeight, List.foldl_max]
  exact (List.le_max?_getD_of_mem (List.mem_map_of_mem h)).trans (le_max_right _ _)

/-! ## A permutation (R178 (c)) -/

theorem interleaveColumn_cons (part : List Byte) (rest : List (List Byte)) (i : Nat) :
    interleaveColumn (part :: rest) i = part[i]?.toList ++ interleaveColumn rest i := by
  rw [interleaveColumn, List.filterMap_cons, interleaveColumn]
  cases part[i]? <;> rfl

/-- One part's positions, read in order. -/
theorem flatMap_getElem?_toList {part : List Byte} {n : Nat} (h : part.length ≤ n) :
    (List.range n).flatMap (fun i => part[i]?.toList) = part := by
  induction part generalizing n with
  | nil => simp
  | cons c part ih =>
    obtain ⟨m, rfl⟩ := Nat.exists_eq_add_of_le' (Nat.one_le_of_lt h)
    rw [List.range_succ_eq_map, List.flatMap_cons, List.flatMap_map]
    exact congrArg (c :: ·) (ih (Nat.le_of_succ_le_succ h))

theorem interleaveColumns_perm {n : Nat} (parts : List (List Byte)) (h : ∀ part ∈ parts, part.length ≤ n) :
    ((List.range n).flatMap (interleaveColumn parts)).Perm parts.flatten := by
  induction parts with
  | nil =>
    have hnil : interleaveColumn [] = fun _ => [] := rfl
    simp [hnil]
  | cons part rest ih =>
    obtain ⟨hpart, hrest⟩ := List.forall_mem_cons.mp h
    rw [funext (interleaveColumn_cons part rest)]
    refine (List.flatMap_append_perm _ _ _).symm.trans ?_
    rw [flatMap_getElem?_toList hpart, List.flatten_cons]
    exact (ih hrest).append_left part

theorem interleave_perm (parts : List (List Byte)) : (interleave parts).Perm parts.flatten :=
  interleaveColumns_perm parts fun _ => length_le_interleaveHeight

/-! ## Slots (R177) -/

variable {P : Nat → List Byte} {n i k : Nat}

theorem length_interleaveColumn (P : Nat → List Byte) (n i : Nat) :
    (interleaveColumn ((List.range n).map P) i).length = (List.range n).countP (fun k => i < (P k).length) := by
  rw [interleaveColumn, List.length_filterMap_eq_countP, List.countP_map]
  exact List.countP_congr fun k _ => by simp

/-- In its column, position i of part k stands after the parts before k that reach it. -/
theorem getElem?_interleaveColumn (hk : k < n) (hi : i < (P k).length) :
    (interleaveColumn ((List.range n).map P) i)[(List.range k).countP (fun k' => i < (P k').length)]?
      = some ((P k).getD i 0#8) := by
  obtain ⟨d, rfl⟩ := Nat.exists_eq_add_of_lt hk
  rw [Nat.add_assoc, List.range_add, List.map_append, interleaveColumn, List.filterMap_append, ← interleaveColumn,
    ← interleaveColumn, ← length_interleaveColumn, List.getElem?_append_right le_rfl, Nat.sub_self,
    List.range_succ_eq_map, List.map_cons, List.map_cons, interleaveColumn_cons, Nat.add_zero,
    List.getElem?_eq_getElem hi, List.getD_eq_getElem _ _ hi]
  rfl

theorem getElem?_interleave_slot (hk : k < n) (hi : i < (P k).length) :
    (interleave ((List.range n).map P))[slot (fun k => (P k).length) n i k]? = some ((P k).getD i 0#8) := by
  have hheight : i < interleaveHeight ((List.range n).map P) :=
    hi.trans_le (length_le_interleaveHeight (List.mem_map_of_mem (List.mem_range.mpr hk)))
  obtain ⟨rest, hrest⟩ := exists_drop_flatMap_range (interleaveColumn ((List.range n).map P)) hheight
  simp only [length_interleaveColumn] at hrest
  have hcolumn := getElem?_interleaveColumn hk hi
  rw [interleave_eq, slot, ← List.getElem?_drop, hrest,
    List.getElem?_append_left (List.getElem?_eq_some_iff.mp hcolumn).1, hcolumn]

/-! ## The command -/

variable {s : State}

theorem length_blockBytes (s : State) (k : Nat) : (blockBytes s k).length = dc s k := by
  rw [blockBytes, List.length_map, List.length_range]

theorem length_blockEccBytes (s : State) (k : Nat) : (blockEccBytes s k).length = ec s k := by
  rw [blockEccBytes, List.length_map, List.length_range]

/-- The data codewords, column-major. -/
def dataStream (s : State) : List Byte := interleave ((List.range s.blkcnt.toNat).map (blockBytes s))

/-- The correction codewords as they stand in ECC, "the same way". -/
def checkStream (s : State) : List Byte := interleave ((List.range s.blkcnt.toNat).map (blockEccBytes s))

theorem dataStream_perm (s : State) : (dataStream s).Perm ((List.range s.blkcnt.toNat).flatMap (blockBytes s)) :=
  interleave_perm _

theorem checkStream_perm (s : State) : (checkStream s).Perm ((List.range s.blkcnt.toNat).flatMap (blockEccBytes s)) :=
  interleave_perm _

theorem length_dataStream (s : State) : (dataStream s).length = sumBelow (dc s) s.blkcnt.toNat := by
  rw [(dataStream_perm s).length_eq, length_flatMap_range, funext (length_blockBytes s)]

theorem getElem?_dataStream (hk : k < s.blkcnt.toNat) (hi : i < dc s k) :
    (dataStream s)[slot (dc s) s.blkcnt.toNat i k]? = some ((blockBytes s k).getD i 0#8) := by
  rw [← funext (length_blockBytes s)]
  exact getElem?_interleave_slot hk (hi.trans_eq (length_blockBytes s k).symm)

theorem getElem?_checkStream (hk : k < s.blkcnt.toNat) (hi : i < ec s k) :
    (checkStream s)[slot (ec s) s.blkcnt.toNat i k]? = some ((blockEccBytes s k).getD i 0#8) := by
  rw [← funext (length_blockEccBytes s)]
  exact getElem?_interleave_slot hk (hi.trans_eq (length_blockEccBytes s k).symm)

theorem codewordStream_blocks (hcount : s.blkcnt.toNat ≤ 128) :
    s.codewordStream s.blocks = dataStream s ++ checkStream s := by
  have hdata : (List.range s.blkcnt.toNat).map (s.blockData s.blocks)
      = (List.range s.blkcnt.toNat).map (blockBytes s) :=
    List.map_congr_left fun k hk => blockData_eq_blockBytes hcount (List.mem_range.mp hk)
  have hcheck : (List.range s.blkcnt.toNat).map (s.blockEcc s.blocks)
      = (List.range s.blkcnt.toNat).map (blockEccBytes s) :=
    List.map_congr_left fun k hk => blockEcc_eq_blockEccBytes hcount (List.mem_range.mp hk)
  rw [State.codewordStream, length_blocks hcount, hdata, hcheck]
  rfl

theorem length_streams (h : tableOk s) : (dataStream s ++ checkStream s).length = sumBelow (tc s) s.blkcnt.toNat := by
  obtain ⟨-, -, -, hvalid, -⟩ := s.checkBlocks_eq_ok.mp (checkBlocks_of_tableOk h)
  have hcount := blkcnt_le_of_tableOk h
  rw [← codewordStream_blocks hcount, length_codewordStream s hvalid, totalCodewords_blocks hcount]

theorem exec_cwIlv_of_tableOk (h : tableOk s) :
    exec .cwIlv s = .next ({ s with
      cw := Memory.ofBytes (dataStream s ++ checkStream s),
      cwlen := Word.ofNat (sumBelow (tc s) s.blkcnt.toNat) }).normalEnd := by
  rw [exec_cwIlv, cwIlvBody_eq_ok.mpr ⟨checkBlocks_of_tableOk h, rfl⟩, State.finish_ok,
    codewordStream_blocks (blkcnt_le_of_tableOk h), length_streams h]

/-- Settles O43: the data stream and the correction stream are each a permutation of their blocks, read by slots. -/
theorem cwIlvInterleaves : Obligations.CwIlvInterleaves := by
  unfold Obligations.CwIlvInterleaves
  intro s h count data check
  have hlen : (dataStream s).length = data.length := (dataStream_perm s).length_eq
  refine ⟨dataStream s ++ checkStream s, exec_cwIlv_of_tableOk h, length_streams h, ?_, ?_, Memory.read_ofBytes _,
    fun k hk => ⟨fun i hi => ?_, fun i hi => ?_⟩⟩
  · rw [← hlen, List.take_left]
    exact dataStream_perm s
  · rw [← hlen, List.drop_left]
    exact checkStream_perm s
  · have hdata := getElem?_dataStream hk hi
    rw [List.getD_eq_getElem?_getD, List.getElem?_append_left (List.getElem?_eq_some_iff.mp hdata).1, hdata,
      Option.getD_some]
  · rw [← length_dataStream, List.getD_append_right _ _ _ _ (Nat.le_add_right _ _), Nat.add_sub_cancel_left,
      List.getD_eq_getElem?_getD, getElem?_checkStream hk hi, Option.getD_some]

end Sys2Proof.Machine
end

section
/-!
PROOFS. The layer the layout commands share (46_matrix.md): how a command that completes ends its step, what a latched
grid is, and the cell a list of writes leaves. With it the words of R194 and R197 (O49), MX.CLR (O44) and the grid check
(O45).
-/

namespace Sys2Proof.Machine

open Sys2Proof.Claims

variable {s u : State}

/-! ## A command that completes (R231) -/

theorem exec_of_commandBody_ok {i : Instr} (h : commandBody i s = .ok u) : exec i s = .next u.normalEnd := by
  rw [exec_eq, h, State.finishComposed_ok]

/-! ## The latched dimension (R186, R187) -/

theorem checkGrid_of_no_grid (h : s.modcnt = 0#32) : s.checkGrid = .error (.invalidParameter .grid 0#32) := if_pos h

theorem dim_of_hasGrid (h : hasGrid s) : 21 ≤ dim s ∧ dim s ≤ 177 ∧ dim s % 4 = 1 :=
  (legalDimension_iff.mp h.2).resolve_left fun hzero => h.1 (BitVec.eq_of_toNat_eq hzero)

theorem mxClrBody_of_bad_version (h : ¬ versionOk s) :
    mxClrBody s = .error (.invalidParameter .version (s.version.setWidth 32)) := by
  rw [mxClrBody, s.checkVersion_eq_error.mpr ⟨by omega, rfl⟩, bind_error, setWidth_eq_ofNat]

/-- Settles O44: an empty grid reads unassigned everywhere. -/
theorem mxClrLatchesTheDimension : Obligations.MxClrLatchesTheDimension := by
  unfold Obligations.MxClrLatchesTheDimension
  refine fun s => ⟨fun h => ⟨[], ?_, fun _ _ => rfl⟩, fun h => ?_⟩
  · exact exec_of_commandBody_ok (i := .mxClr) (mxClrBody_eq_ok.mpr ⟨h, rfl⟩)
  · exact exec_of_commandBody_error (i := .mxClr) (mxClrBody_of_bad_version h)

/-! ## The check of the grid (R186) -/

/-- A host write of VERSION writes VERSION, is dropped, or is ignored: MODCNT and GRID stay (R29, R67, R251). -/
theorem hostWrite_version_grid (s : State) (w : Word) :
    (s.hostWrite .version w).modcnt = s.modcnt ∧ (s.hostWrite .version w).grid = s.grid := by
  obtain ⟨-, hw⟩ | ⟨-, ⟨⟨hloc, -⟩, -⟩ | hw | ⟨-, hw⟩⟩ := s.hostWrite_cases .version w
  · rw [hw]
    exact ⟨rfl, rfl⟩
  · cases hloc
  · rw [hw]
    exact ⟨rfl, rfl⟩
  · rw [hw]
    exact ⟨rfl, rfl⟩

/-- Settles O45: the check stands first in each of the seven commands. -/
theorem gridRequired : Obligations.GridRequired := by
  unfold Obligations.GridRequired
  refine fun s => ⟨fun hzero i hi => ?_, hostWrite_version_grid s⟩
  have hcheck := checkGrid_of_no_grid hzero
  obtain rfl | rfl | rfl | ⟨m, t, rfl⟩ | ⟨t, rfl⟩ | ⟨m, rfl⟩ | rfl := hi
  · exact exec_of_commandBody_error (i := .mxFnd) (by rw [commandBody, mxFndBody, hcheck, bind_error])
  · exact exec_of_commandBody_error (i := .mxAln) (by rw [commandBody, mxAlnBody, hcheck, bind_error])
  · exact exec_of_commandBody_error (i := .mxTim) (by rw [commandBody, mxTimBody, hcheck, bind_error])
  · exact exec_of_commandBody_error (i := .mxFmt m t) (by rw [commandBody, mxFmtBody, hcheck, bind_error])
  · exact exec_of_commandBody_error (i := .mxVer t) (by rw [commandBody, mxVerBody, hcheck, bind_error])
  · exact exec_of_commandBody_error (i := .mxMap m) (by rw [commandBody, mxMapBody, hcheck, bind_error])
  · exact exec_of_commandBody_error (i := .mxPen) (by rw [commandBody, mxPenBody, hcheck, bind_error])

/-! ## The words of the tables (R194, R197) -/

theorem formatBits_eq_formatWord : ∀ (e : BitVec 2) (m : MaskId), formatBits e m = formatWord e.toNat m.val := by
  decide +kernel

theorem versionBits_eq_versionWord : ∀ k < 34, versionBits (7 + k) = versionWord (7 + k) := by decide +kernel

/-- Settles O49: the two closed tables. -/
theorem formatAndVersionWords : Obligations.FormatAndVersionWords :=
  ⟨formatBits_eq_formatWord, versionBits_eq_versionWord⟩

/-! ## The cell a list of writes leaves (R185) -/

section
variable {g : Grid} {cells : List CellWrite}

/-- Where the writes are those of a colouring of some cells, a cell takes its colour or keeps its code. -/
theorem Grid.get_paintAll_of_colouring {colour : Nat → Nat → Option Bool}
    (h : ∀ r c d, (r, c, d) ∈ cells ↔ colour r c = some d) (r c : Nat) :
    (g.paintAll cells).get r c = (colour r c).elim (g.get r c) moduleOfDark := by
  cases hc : colour r c with
  | none =>
    refine Grid.get_paintAll_other g cells r c ?_
    rintro ⟨_, _, d⟩ hx ⟨rfl, rfl⟩
    rw [(h _ _ d).mp hx] at hc
    cases hc
  | some d =>
    refine Grid.get_paintAll_same g cells r c d ⟨_, (h r c d).mpr hc, rfl, rfl⟩ ?_
    rintro ⟨_, _, d'⟩ hx rfl rfl
    rw [(h _ _ d').mp hx] at hc
    exact Option.some.inj hc

/-- Where the writes are those of a colouring, a cell of the list takes its write's colour. -/
theorem Grid.get_paintAll_of_mem {colour : Nat → Nat → Bool} (h : ∀ x ∈ cells, x.2.2 = colour x.1 x.2.1) {r c : Nat}
    {d : Bool} (hx : (r, c, d) ∈ cells) : (g.paintAll cells).get r c = moduleOfDark d := by
  refine Grid.get_paintAll_same g cells r c d ⟨_, hx, rfl, rfl⟩ fun y hy hr hc => ?_
  rw [h y hy, hr, hc]
  exact (h _ hx).symm

/-- No write unassigns a cell. -/
theorem Grid.get_paint_ne_unassigned {r c r' c' : Nat} {d : Bool}
    (h : (r = r' ∧ c = c') ∨ g.get r' c' ≠ .unassigned) : (g.paint r c d).get r' c' ≠ .unassigned := by
  rw [Grid.get_paint]
  split
  next => exact moduleOfDark_assigned d
  next hother => exact h.resolve_left hother

theorem Grid.get_paintAll_ne_unassigned {r c : Nat}
    (h : (∃ x ∈ cells, x.1 = r ∧ x.2.1 = c) ∨ g.get r c ≠ .unassigned) :
    (g.paintAll cells).get r c ≠ .unassigned := by
  unfold Grid.paintAll
  induction cells generalizing g with
  | nil => exact h.resolve_left (by simp)
  | cons x rest ih =>
    refine ih (g := g.paint x.1 x.2.1 x.2.2) ?_
    rw [List.exists_mem_cons_iff, or_right_comm, or_comm] at h
    exact h.imp_right Grid.get_paint_ne_unassigned

/-- A list of fills whose writes to a cell agree assigns it where it is unassigned. -/
theorem Grid.get_fillAll {r c : Nat} {d : Bool} (hall : ∀ x ∈ cells, x.1 = r → x.2.1 = c → x.2.2 = d) :
    (g.fillAll cells).get r c
      = if g.get r c = .unassigned ∧ ∃ x ∈ cells, x.1 = r ∧ x.2.1 = c then moduleOfDark d else g.get r c := by
  unfold Grid.fillAll
  induction cells generalizing g with
  | nil => simp
  | cons x rest ih =>
    obtain ⟨hx, hrest⟩ := List.forall_mem_cons.mp hall
    rw [List.foldl_cons, ih hrest, Grid.get_fill]
    by_cases hhere : x.1 = r ∧ x.2.1 = c
    · obtain ⟨rfl, rfl⟩ := hhere
      rw [hx rfl rfl]
      by_cases hfree : g.get x.1 x.2.1 = .unassigned <;> simp [hfree, moduleOfDark_assigned]
    · have hkeep : ¬ (x.1 = r ∧ x.2.1 = c ∧ g.get x.1 x.2.1 = .unassigned) := fun h => hhere ⟨h.1, h.2.1⟩
      rw [if_neg hkeep]
      simp only [List.exists_mem_cons_iff, hhere, false_or]

end

end Sys2Proof.Machine
end

section
/-!
PROOFS. The finder patterns (O46): the cells MX.FND writes are those of the three corner regions, in the colour of their
ring around the pattern's centre (R188, R190).
-/

namespace Sys2Proof.Machine

open Sys2Proof.Claims

/-- R188's drawing by rows and columns is the drawing by rings around the centre (3, 3). -/
theorem finderDark_eq_finderRing :
    ∀ p ∈ pairs (offsets (-1) 9) (offsets (-1) 9),
      finderDark p.1 p.2 = finderRing (max (p.1 - 3).natAbs (p.2 - 3).natAbs) := by decide

theorem gap_eq_natAbs (a b : Nat) : gap a b = ((a : Int) - b).natAbs := by
  unfold gap
  omega

/-- The writes of one corner region, whose pattern has its centre at (pr, pc). -/
theorem mem_finderRegion {n pr pc r c : Nat} {d : Bool} :
    (r, c, d) ∈ (pairs (offsets (-1) 9) (offsets (-1) 9)).filterMap (fun (dr, dc) =>
        let r := (pr : Int) - 3 + dr
        let c := (pc : Int) - 3 + dc
        if 0 ≤ r ∧ r < n ∧ 0 ≤ c ∧ c < n then some (r.toNat, c.toNat, finderDark dr dc) else none)
      ↔ r < n ∧ c < n ∧ gap r pr ≤ 4 ∧ gap c pc ≤ 4 ∧ finderRing (max (gap r pr) (gap c pc)) = d := by
  rw [List.mem_filterMap]
  simp only [Option.ite_none_right_eq_some, Option.some.injEq, Prod.mk.injEq]
  constructor
  · rintro ⟨⟨dr, dc⟩, hp, hin, rfl, rfl, rfl⟩
    obtain ⟨hr, hc⟩ := mem_pairs.mp hp
    rw [mem_offsets] at hr hc
    dsimp only at hr hc hin ⊢
    have hgr : gap ((pr : Int) - 3 + dr).toNat pr = (dr - 3).natAbs := by rw [gap_eq_natAbs]; omega
    have hgc : gap ((pc : Int) - 3 + dc).toNat pc = (dc - 3).natAbs := by rw [gap_eq_natAbs]; omega
    rw [hgr, hgc, finderDark_eq_finderRing _ hp]
    exact ⟨by omega, by omega, by omega, by omega, rfl⟩
  · rintro ⟨hr, hc, hgr, hgc, rfl⟩
    rw [gap_eq_natAbs] at hgr hgc
    have hp : ((r : Int) - pr + 3, (c : Int) - pc + 3) ∈ pairs (offsets (-1) 9) (offsets (-1) 9) := by
      rw [mem_pairs, mem_offsets, mem_offsets]
      dsimp only
      omega
    refine ⟨_, hp, by dsimp only; omega, by dsimp only; omega, by dsimp only; omega, ?_⟩
    rw [finderDark_eq_finderRing _ hp, gap_eq_natAbs, gap_eq_natAbs, Int.add_sub_cancel, Int.add_sub_cancel]

/-- The three corners of R190 by the centres of their patterns. -/
theorem finderCorners_eq {n : Nat} (hn : 21 ≤ n) :
    finderCorners n = [(((3 : Nat) : Int) - 3, ((3 : Nat) : Int) - 3),
      (((n - 4 : Nat) : Int) - 3, ((3 : Nat) : Int) - 3), (((3 : Nat) : Int) - 3, ((n - 4 : Nat) : Int) - 3)] := by
  have hfar : (n : Int) - 7 = ((n - 4 : Nat) : Int) - 3 := by omega
  rw [finderCorners, hfar]
  rfl

theorem mem_finderCells {n : Nat} (hn : 21 ≤ n) (r c : Nat) (d : Bool) :
    (r, c, d) ∈ finderCells n ↔ finderCell n r c = some d := by
  simp only [finderCells, finderCorners_eq hn, List.flatMap_cons, List.flatMap_nil, List.append_nil, List.mem_append,
    mem_finderRegion]
  have hnear : ∀ a, gap a 3 ≤ 4 ↔ a ≤ 7 := by intro a; rw [gap_eq_natAbs]; omega
  have hfar : ∀ a, a < n → (gap a (n - 4) ≤ 4 ↔ n ≤ a + 8) := by intro a ha; rw [gap_eq_natAbs]; omega
  unfold finderCell
  split_ifs <;> grind

/-- Settles O46: the list of writes is the colouring of the three regions. -/
theorem mxFndPaintsThreeCorners : Obligations.MxFndPaintsThreeCorners := by
  unfold Obligations.MxFndPaintsThreeCorners
  intro s h
  refine ⟨_, exec_of_commandBody_ok (i := .mxFnd) (mxFndBody_eq_ok.mpr ⟨h.1, rfl⟩), fun r c => ?_⟩
  rw [Grid.get_paintAll_of_colouring (mem_finderCells (dim_of_hasGrid h).1)]
  cases finderCell (dim s) r c <;> rfl

end Sys2Proof.Machine
end

section
/-!
PROOFS. The alignment patterns (O47): one pattern is a 5x5 square of rings (R191), and the patterns are painted pair by
pair as R192 says of a grid given as a function; its consequences follow by induction over the pairs.
-/

namespace Sys2Proof.Machine

open Sys2Proof.Claims

/-! ## The table of centres (R35) -/

section
variable {s : State}

theorem centres_eq (s : State) : s.centres = (List.range s.alncnt.toNat).map (aln s) := by
  have htable : s.alntab.toList.map (·.toNat) = (List.range 7).map (aln s) := by
    rw [← map_getD_range s.alntab.toList 0#8, List.map_map, Vector.length_toList]
    rfl
  rw [State.centres, List.map_take, htable, ← List.map_take, List.take_range,
    Nat.min_eq_left (Nat.le_of_lt_succ s.alncnt.isLt)]

theorem pairs_centres (s : State) : pairs s.centres s.centres = centrePairs s := by
  rw [centres_eq, pairs, List.flatMap_map]
  simp only [List.map_map]
  rfl

theorem mem_centrePairs {x : Nat × Nat} :
    x ∈ centrePairs s ↔ ∃ i < s.alncnt.toNat, ∃ j < s.alncnt.toNat, (aln s i, aln s j) = x := by
  simp only [centrePairs, List.mem_flatMap, List.mem_map, List.mem_range]

/-- R192's search for a bad entry, by the entries' numbers. -/
theorem badCentre_centres (s : State) (n : Nat) :
    badCentre n s.centres = (List.range s.alncnt.toNat).findIdx? (fun i => ¬ centreOk s n i) := by
  have hcast : (s.centres >>= fun a => pure (a : Int))
      = (List.range s.alncnt.toNat).map (fun i => (aln s i : Int)) := by
    rw [centres_eq, List.bind_eq_flatMap, List.flatMap_map, List.map_eq_flatMap]
    rfl
  rw [badCentre, hcast, List.findIdx?_map]
  congr 1
  funext i
  rw [Bool.eq_iff_iff]
  simp only [Function.comp_apply, Bool.not_eq_true', Bool.and_eq_false_iff, decide_eq_false_iff_not, decide_eq_true_eq]
  omega

theorem badCentre_of_centresOk {n : Nat} (h : centresOk s n) : badCentre n s.centres = none := by
  rw [badCentre_centres, List.findIdx?_eq_none_iff]
  intro i hi
  exact decide_eq_false (not_not.mpr (h i (List.mem_range.mp hi)))

/-- "the lowest i" (R192). -/
theorem badCentre_eq_some {n k : Nat} (hk : k < s.alncnt.toNat) (hbefore : ∀ j < k, centreOk s n j)
    (hbad : ¬ centreOk s n k) : badCentre n s.centres = some k := by
  rw [badCentre_centres, List.findIdx?_eq_some_iff_getElem]
  refine ⟨hk.trans_eq List.length_range.symm, ?_, fun j hj => ?_⟩
  · rw [List.getElem_range]
    exact decide_eq_true hbad
  · rw [List.getElem_range, decide_eq_true_eq, not_not]
    exact hbefore j hj

theorem mxAlnBody_of_badCentre {k : Nat} (hgrid : s.modcnt ≠ 0#32) (h : badCentre s.modcnt.toNat s.centres = some k) :
    mxAlnBody s = .error (.invalidParameter .alnTab (Word.ofNat k)) := by
  rw [mxAlnBody, s.checkGrid_eq_ok.mpr ⟨hgrid, rfl⟩, bind_ok, h]

end

/-! ## One pattern (R191) -/

/-- R191's drawing is the drawing by rings: light at distance 1 only. -/
theorem alignDark_eq_ring :
    ∀ p ∈ pairs (offsets (-2) 5) (offsets (-2) 5), alignDark p.1 p.2 = (max p.1.natAbs p.2.natAbs != 1) := by decide

/-- The colour a pattern gives a cell of its square. -/
def alignCell (pr pc r c : Nat) : Option Bool :=
  if gap r pr ≤ 2 ∧ gap c pc ≤ 2 then some (max (gap r pr) (gap c pc) != 1) else none

theorem mem_alignCells {pr pc : Nat} (hpr : 2 ≤ pr) (hpc : 2 ≤ pc) (r c : Nat) (d : Bool) :
    (r, c, d) ∈ alignCells pr pc ↔ alignCell pr pc r c = some d := by
  simp only [alignCells, alignCell, List.mem_map, Option.ite_none_right_eq_some, Option.some.injEq, Prod.mk.injEq]
  constructor
  · rintro ⟨⟨dr, dc⟩, hp, rfl, rfl, rfl⟩
    obtain ⟨hr, hc⟩ := mem_pairs.mp hp
    rw [mem_offsets] at hr hc
    dsimp only at hr hc ⊢
    have hgr : gap ((pr : Int) + dr).toNat pr = dr.natAbs := by rw [gap_eq_natAbs]; omega
    have hgc : gap ((pc : Int) + dc).toNat pc = dc.natAbs := by rw [gap_eq_natAbs]; omega
    rw [hgr, hgc, alignDark_eq_ring _ hp]
    exact ⟨by omega, rfl⟩
  · rintro ⟨hgap, rfl⟩
    rw [gap_eq_natAbs, gap_eq_natAbs] at hgap ⊢
    have hp : ((r : Int) - pr, (c : Int) - pc) ∈ pairs (offsets (-2) 5) (offsets (-2) 5) := by
      rw [mem_pairs, mem_offsets, mem_offsets]
      dsimp only
      omega
    exact ⟨_, hp, by dsimp only; omega, by dsimp only; omega, alignDark_eq_ring _ hp⟩

/-! ## All patterns (R192) -/

section
variable {l : List (Nat × Nat)} {r c : Nat}

theorem get_paintAlignments (g : Grid) (hl : ∀ x ∈ l, 2 ≤ x.1 ∧ 2 ≤ x.2) :
    (l.foldl Grid.paintAlignment g).get = alignFrom l g.get := by
  induction l generalizing g with
  | nil => rfl
  | cons x rest ih =>
    obtain ⟨pr, pc⟩ := x
    obtain ⟨⟨hpr, hpc⟩, hrest⟩ := List.forall_mem_cons.mp hl
    rw [List.foldl_cons, ih _ hrest, alignFrom, Grid.paintAlignment]
    split
    next => rfl
    next =>
      refine congrArg (alignFrom rest) (funext₂ fun r c => ?_)
      rw [Grid.get_paintAll_of_colouring (mem_alignCells hpr hpc), alignCell]
      split <;> rfl

/-- With every centre assigned no pattern is painted. -/
theorem paintAlignments_of_assigned {g : Grid} (h : ∀ x ∈ l, g.get x.1 x.2 ≠ .unassigned) :
    l.foldl Grid.paintAlignment g = g := by
  induction l with
  | nil => rfl
  | cons x rest ih =>
    obtain ⟨hx, hrest⟩ := List.forall_mem_cons.mp h
    rw [List.foldl_cons, Grid.paintAlignment, if_pos hx, ih hrest]

theorem alignFrom_of_far {f : Nat → Nat → Module} (h : ∀ x ∈ l, ¬ (gap r x.1 ≤ 2 ∧ gap c x.2 ≤ 2)) :
    alignFrom l f r c = f r c := by
  induction l generalizing f with
  | nil => rfl
  | cons x rest ih =>
    obtain ⟨hx, hrest⟩ := List.forall_mem_cons.mp h
    rw [alignFrom]
    split
    next => exact ih hrest
    next => rw [ih hrest, if_neg hx]

theorem alignFrom_ne_unassigned {f : Nat → Nat → Module} (h : f r c ≠ .unassigned) :
    alignFrom l f r c ≠ .unassigned := by
  induction l generalizing f with
  | nil => exact h
  | cons x rest ih =>
    rw [alignFrom]
    split
    next => exact ih h
    next =>
      refine ih ?_
      split
      next => exact moduleOfDark_assigned _
      next => exact h

theorem alignFrom_centre_ne_unassigned {f : Nat → Nat → Module} (h : (r, c) ∈ l) :
    alignFrom l f r c ≠ .unassigned := by
  induction l generalizing f with
  | nil => cases h
  | cons x rest ih =>
    rw [alignFrom]
    obtain rfl | hrest := List.mem_cons.mp h
    · split
      next hset => exact alignFrom_ne_unassigned hset
      next =>
        refine alignFrom_ne_unassigned ?_
        rw [if_pos (by simp [gap])]
        exact moduleOfDark_assigned _
    · split
      next => exact ih hrest
      next => exact ih hrest

end

/-- Settles O47: the grid is the pair-by-pair colouring, whose properties are read off. -/
theorem mxAlnPaintsAtUnassignedCentres : Obligations.MxAlnPaintsAtUnassignedCentres := by
  unfold Obligations.MxAlnPaintsAtUnassignedCentres
  intro s h count
  refine ⟨fun hok => ?_, fun k hk hbefore hbad => ?_⟩
  · have hlow : ∀ x ∈ centrePairs s, 2 ≤ x.1 ∧ 2 ≤ x.2 := by
      intro x hx
      obtain ⟨i, hi, j, hj, rfl⟩ := mem_centrePairs.mp hx
      exact ⟨(hok i hi).1, (hok j hj).1⟩
    have hbody := mxAlnBody_eq_ok.mpr ⟨h.1, badCentre_of_centresOk hok, rfl⟩
    rw [pairs_centres] at hbody
    refine ⟨_, exec_of_commandBody_ok (i := .mxAln) hbody, fun r c hfar => ?far, fun i hi j hj => ?centre,
      fun hset => ?same, fun r c => by rw [get_paintAlignments _ hlow]⟩
    case far =>
      rw [get_paintAlignments _ hlow]
      refine alignFrom_of_far fun x hx => ?_
      obtain ⟨i, hi, j, hj, rfl⟩ := mem_centrePairs.mp hx
      exact hfar i hi j hj
    case centre =>
      rw [get_paintAlignments _ hlow]
      exact alignFrom_centre_ne_unassigned (mem_centrePairs.mpr ⟨i, hi, j, hj, rfl⟩)
    case same =>
      refine paintAlignments_of_assigned fun x hx => ?_
      obtain ⟨i, hi, j, hj, rfl⟩ := mem_centrePairs.mp hx
      exact hset i hi j hj
  · exact exec_of_commandBody_error (i := .mxAln) (mxAlnBody_of_badCentre h.1 (badCentre_eq_some hk hbefore hbad))

end Sys2Proof.Machine
end

section
/-!
PROOFS. The timing patterns (O48), the format information (O50) and the version information (O51): each command writes
one colour to a cell, so the cells are read off its list of writes.
-/

namespace Sys2Proof.Machine

open Sys2Proof.Claims

variable {n : Nat}

/-! ## Timing patterns (R193) -/

theorem mem_timingCells {x : CellWrite} :
    x ∈ timingCells n ↔ ∃ k < n, (k, 6, k % 2 == 0) = x ∨ (6, k, k % 2 == 0) = x := by
  simp only [timingCells, List.mem_flatMap, List.mem_range, List.mem_cons, List.not_mem_nil, or_false, eq_comm]

/-- The cell (6, 6) lies on both lines, with one parity. -/
theorem timingCells_colour {r c : Nat} :
    ∀ x ∈ timingCells n, x.1 = r → x.2.1 = c → x.2.2 = ((if c = 6 then r else c) % 2 == 0) := by
  intro x hx
  obtain ⟨k, -, rfl | rfl⟩ := mem_timingCells.mp hx
  · rintro rfl rfl
    rfl
  · rintro rfl rfl
    dsimp only
    split
    next h => rw [h]
    next => rfl

theorem exists_mem_timingCells (hn : 21 ≤ n) {r c : Nat} :
    (∃ x ∈ timingCells n, x.1 = r ∧ x.2.1 = c) ↔ r < n ∧ c < n ∧ (r = 6 ∨ c = 6) := by
  constructor
  · rintro ⟨x, hx, rfl, rfl⟩
    obtain ⟨k, hk, rfl | rfl⟩ := mem_timingCells.mp hx
    · exact ⟨hk, by dsimp only; omega, .inr rfl⟩
    · exact ⟨by dsimp only; omega, hk, .inl rfl⟩
  · rintro ⟨hr, hc, rfl | rfl⟩
    · exact ⟨_, mem_timingCells.mpr ⟨c, hc, .inr rfl⟩, rfl, rfl⟩
    · exact ⟨_, mem_timingCells.mpr ⟨r, hr, .inl rfl⟩, rfl, rfl⟩

theorem get_fillAll_timingCells (hn : 21 ≤ n) (g : Grid) (r c : Nat) :
    (g.fillAll (timingCells n)).get r c
      = if g.get r c = .unassigned ∧ r < n ∧ c < n ∧ (r = 6 ∨ c = 6) then
          moduleOfDark ((if c = 6 then r else c) % 2 == 0)
        else g.get r c := by
  rw [Grid.get_fillAll timingCells_colour]
  simp only [exists_mem_timingCells hn]

/-- Settles O48: an unassigned cell of the two lines takes the colour its writes agree on. -/
theorem mxTimFillsRowAndColumnSix : Obligations.MxTimFillsRowAndColumnSix := by
  unfold Obligations.MxTimFillsRowAndColumnSix
  intro s h
  exact ⟨_, exec_of_commandBody_ok (i := .mxTim) (mxTimBody_eq_ok.mpr ⟨h.1, rfl⟩),
    get_fillAll_timingCells (dim_of_hasGrid h).1 _⟩

/-! ## Format information (R195, R196) -/

section
variable {w : Nat} {trial : Bool}

theorem mem_formatCells {x : CellWrite} :
    x ∈ formatCells n w trial ↔
      (∃ i < 15, ((formatVertical n i).1, (formatVertical n i).2, !trial && w.testBit i) = x ∨
        ((formatHorizontal n i).1, (formatHorizontal n i).2, !trial && w.testBit i) = x) ∨ (n - 8, 8, true) = x := by
  simp only [formatCells, List.mem_append, List.mem_flatMap, List.mem_range, List.mem_cons, List.not_mem_nil, or_false,
    eq_comm]

/-- The bit at a place of R195's copies, by its row in column 8 and by its column in row 8. -/
def formatIndex (n r c : Nat) : Nat :=
  if c = 8 then if r ≤ 5 then r else if r ≤ 8 then r - 1 else r + 15 - n
  else if c ≤ 5 then 14 - c else if c = 7 then 8 else n - 1 - c

/-- The colour of a format cell or the dark module. -/
def formatColour (n w : Nat) (trial : Bool) (r c : Nat) : Bool :=
  if r = n - 8 ∧ c = 8 then true else !trial && w.testBit (formatIndex n r c)

/-- R195's vertical copy: its place in column 8, which is not the dark module's, and its bit. -/
theorem formatVertical_place (hn : 21 ≤ n) {i : Nat} (hi : i < 15) :
    (formatVertical n i).2 = 8 ∧ (formatVertical n i).1 ≠ 6 ∧ (formatVertical n i).1 ≠ n - 8 ∧
      ((formatVertical n i).1 ≤ 8 ∨ (n - 8 ≤ (formatVertical n i).1 ∧ (formatVertical n i).1 < n)) ∧
      formatIndex n (formatVertical n i).1 (formatVertical n i).2 = i := by
  unfold formatVertical formatIndex
  split_ifs <;> dsimp only <;> omega

/-- R195's horizontal copy. -/
theorem formatHorizontal_place (hn : 21 ≤ n) {i : Nat} (hi : i < 15) :
    (formatHorizontal n i).1 = 8 ∧ (formatHorizontal n i).2 ≠ 6 ∧ (formatHorizontal n i).2 ≠ 8 ∧
      ((formatHorizontal n i).2 ≤ 8 ∨ (n - 8 ≤ (formatHorizontal n i).2 ∧ (formatHorizontal n i).2 < n)) ∧
      formatIndex n (formatHorizontal n i).1 (formatHorizontal n i).2 = i := by
  unfold formatHorizontal formatIndex
  split_ifs <;> dsimp only at * <;> omega

theorem formatCells_colour (hn : 21 ≤ n) : ∀ x ∈ formatCells n w trial, x.2.2 = formatColour n w trial x.1 x.2.1 := by
  intro x hx
  unfold formatColour
  obtain ⟨i, hi, rfl | rfl⟩ | rfl := mem_formatCells.mp hx
  · obtain ⟨-, -, hdark, -, hindex⟩ := formatVertical_place hn hi
    dsimp only
    rw [hindex, if_neg fun h => hdark h.1]
  · obtain ⟨-, -, hdark, -, hindex⟩ := formatHorizontal_place hn hi
    dsimp only
    rw [hindex, if_neg fun h => hdark h.2]
  · exact (if_pos ⟨rfl, rfl⟩).symm

variable (g : Grid)

theorem get_formatCells_bit (hn : 21 ≤ n) {i r c : Nat} (hi : i < 15)
    (h : formatVertical n i = (r, c) ∨ formatHorizontal n i = (r, c)) :
    (g.paintAll (formatCells n w trial)).get r c = moduleOfDark (!trial && w.testBit i) := by
  refine Grid.get_paintAll_of_mem (formatCells_colour hn) (mem_formatCells.mpr (.inl ⟨i, hi, ?_⟩))
  exact h.imp (fun h => by rw [h]) (fun h => by rw [h])

theorem get_formatCells_darkModule (hn : 21 ≤ n) : (g.paintAll (formatCells n w trial)).get (n - 8) 8 = .dark :=
  Grid.get_paintAll_of_mem (formatCells_colour hn) (mem_formatCells.mpr (.inr rfl))

theorem get_formatCells_other (hn : 21 ≤ n) {r c : Nat} (hcol : ¬ (c = 8 ∧ r ≠ 6 ∧ (r ≤ 8 ∨ (n - 8 ≤ r ∧ r < n))))
    (hrow : ¬ (r = 8 ∧ c ≠ 6 ∧ (c ≤ 8 ∨ (n - 8 ≤ c ∧ c < n)))) :
    (g.paintAll (formatCells n w trial)).get r c = g.get r c := by
  refine Grid.get_paintAll_other _ _ _ _ ?_
  rintro x hx ⟨rfl, rfl⟩
  obtain ⟨i, hi, rfl | rfl⟩ | rfl := mem_formatCells.mp hx
  · obtain ⟨h1, h2, -, h3, -⟩ := formatVertical_place hn hi
    exact hcol ⟨h1, h2, h3⟩
  · obtain ⟨h1, h2, -, h3, -⟩ := formatHorizontal_place hn hi
    exact hrow ⟨h1, h2, h3⟩
  · exact hcol ⟨rfl, by dsimp only; omega, by dsimp only; omega⟩

end

/-- Settles O50: each place of R195 is that of one bit. -/
theorem mxFmtPaintsTheFormatCells : Obligations.MxFmtPaintsTheFormatCells := by
  unfold Obligations.MxFmtPaintsTheFormatCells
  intro s m trial h n bit
  have hn := (dim_of_hasGrid h).1
  refine ⟨_, exec_of_commandBody_ok (i := .mxFmt m trial) (mxFmtBody_eq_ok.mpr ⟨h.1, rfl⟩), ?_⟩
  rw [formatBits_eq_formatWord]
  have place {i r c : Nat} : i < 15 → formatVertical n i = (r, c) ∨ formatHorizontal n i = (r, c) →
      (s.grid.paintAll (formatCells n (formatWord s.eclevel.toNat m.val) trial)).get r c = bit i :=
    get_formatCells_bit s.grid hn
  refine ⟨fun i hi => ⟨place (by omega) (.inl (if_pos hi)), place (by omega) (.inr (if_pos hi))⟩,
    place (i := 6) (by decide) (.inl rfl), place (by decide) (.inr rfl),
    place (i := 7) (by decide) (.inl rfl), place (by decide) (.inr rfl),
    place (i := 8) (by decide) (.inl rfl), place (by decide) (.inr rfl), fun i hlow hhigh => ?copies,
    get_formatCells_darkModule s.grid hn, fun r c => get_formatCells_other s.grid hn⟩
  have hplace : formatVertical n i = (n - 15 + i, 8) ∧ formatHorizontal n i = (8, 14 - i) := by
    unfold formatVertical formatHorizontal
    constructor
    · split_ifs <;> rw [Prod.mk.injEq] <;> omega
    · split_ifs <;> rw [Prod.mk.injEq] <;> omega
  exact ⟨place (by omega) (.inl hplace.1), place (by omega) (.inr hplace.2)⟩

/-! ## Version information (R197, R198) -/

section
variable {w : Nat} {trial : Bool}

theorem mem_versionCells {x : CellWrite} :
    x ∈ versionCells n w trial ↔ ∃ i < 18, (i / 3, n - 11 + i % 3, !trial && w.testBit i) = x ∨
      (n - 11 + i % 3, i / 3, !trial && w.testBit i) = x := by
  simp only [versionCells, List.mem_flatMap, List.mem_range, List.mem_cons, List.not_mem_nil, or_false, eq_comm]

/-- The bit at a place of R197's two blocks, of which the smaller coordinate is i div 3. -/
def versionIndex (n r c : Nat) : Nat := 3 * min r c + (max r c - (n - 11))

theorem versionCells_colour (hn : 21 ≤ n) :
    ∀ x ∈ versionCells n w trial, x.2.2 = (!trial && w.testBit (versionIndex n x.1 x.2.1)) := by
  intro x hx
  obtain ⟨i, hi, hxi⟩ := mem_versionCells.mp hx
  have hindex : versionIndex n (i / 3) (n - 11 + i % 3) = i ∧ versionIndex n (n - 11 + i % 3) (i / 3) = i := by
    unfold versionIndex
    omega
  obtain rfl | rfl := hxi
  · dsimp only
    rw [hindex.1]
  · dsimp only
    rw [hindex.2]

variable (g : Grid)

theorem get_versionCells_bit (hn : 21 ≤ n) {i : Nat} (hi : i < 18) :
    (g.paintAll (versionCells n w trial)).get (i / 3) (n - 11 + i % 3) = moduleOfDark (!trial && w.testBit i) ∧
      (g.paintAll (versionCells n w trial)).get (n - 11 + i % 3) (i / 3) = moduleOfDark (!trial && w.testBit i) :=
  have hcolour (x : CellWrite) := versionCells_colour (w := w) (trial := trial) hn x
  ⟨Grid.get_paintAll_of_mem (colour := fun r c => !trial && w.testBit (versionIndex n r c)) hcolour
      (mem_versionCells.mpr ⟨i, hi, .inl rfl⟩),
    Grid.get_paintAll_of_mem (colour := fun r c => !trial && w.testBit (versionIndex n r c)) hcolour
      (mem_versionCells.mpr ⟨i, hi, .inr rfl⟩)⟩

theorem get_versionCells_other (hn : 21 ≤ n) {r c : Nat} (hright : ¬ (r ≤ 5 ∧ n - 11 ≤ c ∧ c ≤ n - 9))
    (hlow : ¬ (c ≤ 5 ∧ n - 11 ≤ r ∧ r ≤ n - 9)) : (g.paintAll (versionCells n w trial)).get r c = g.get r c := by
  refine Grid.get_paintAll_other _ _ _ _ ?_
  rintro x hx ⟨rfl, rfl⟩
  obtain ⟨i, hi, rfl | rfl⟩ := mem_versionCells.mp hx
  · dsimp only at hright
    omega
  · dsimp only at hlow
    omega

end

/-- Settles O51: the latched version decides, and each place of R197 is that of one bit. -/
theorem mxVerPaintsTheVersionBlocks : Obligations.MxVerPaintsTheVersionBlocks := by
  unfold Obligations.MxVerPaintsTheVersionBlocks
  intro s trial h n v
  have hn := dim_of_hasGrid h
  have hbody := mxVerBody_eq_ok (trial := trial).mpr ⟨h.1, rfl⟩
  have hlatched : latchedVersion s.modcnt.toNat = v := rfl
  rw [hlatched] at hbody
  refine ⟨fun hv => ?_, fun hv => ?_⟩
  · rw [if_pos hv] at hbody
    exact exec_of_commandBody_ok (i := .mxVer trial) hbody
  · have hword : versionBits v = versionWord v := by
      obtain ⟨k, hk⟩ := Nat.exists_eq_add_of_le hv
      rw [hk]
      exact versionBits_eq_versionWord k (by omega)
    rw [if_neg (Nat.not_lt.mpr hv), hword] at hbody
    exact ⟨_, exec_of_commandBody_ok (i := .mxVer trial) hbody, fun i => get_versionCells_bit s.grid hn.1,
      fun r c => get_versionCells_other s.grid hn.1⟩

end Sys2Proof.Machine
end

section
/-!
PROOFS. The placement path (O52): the literal loop of R200 runs through one pair of columns after another, and the pairs
cover every column but 6 once.
-/

namespace Sys2Proof.Machine

open Sys2Proof.Claims

variable {n : Nat}

/-! ## The literal loop -/

/-- The two cells of a row of a pair of columns: "right column, then left". -/
def pairCells (col row : Nat) : List (Nat × Nat) := [(row, col), (row, col - 1)]

/-- The right column of the next pair. -/
def nextColumn (col : Int) : Int := if col - 2 = 6 then 5 else col - 2

theorem walk_of_le_zero {fuel : Nat} {col row inc : Int} (h : col ≤ 0) : walk n fuel col row inc = [] := by
  cases fuel with
  | zero => rfl
  | succ fuel => rw [walk, if_pos h]

section
variable {fuel col row : Nat} {inc : Int} (hcol : 0 < col)
include hcol

/-- A visit before the last row of its pair. -/
theorem walk_step (hlow : 0 ≤ row + inc) (hhigh : row + inc < n) :
    walk n (fuel + 1) col row inc = pairCells col row ++ walk n fuel col (row + inc) inc := by
  have hleft : ((col : Int) - 1).toNat = col - 1 := by omega
  rw [walk, if_neg (by omega), if_neg (by omega), Int.toNat_natCast, Int.toNat_natCast, hleft, pairCells]

/-- The visit of the last row of a pair. -/
theorem walk_turn (hturn : row + inc < 0 ∨ n ≤ row + inc) :
    walk n (fuel + 1) col row inc = pairCells col row ++ walk n fuel (nextColumn col) row (-inc) := by
  have hleft : ((col : Int) - 1).toNat = col - 1 := by omega
  rw [walk, if_neg (by omega), if_pos hturn, Int.toNat_natCast, Int.toNat_natCast, hleft, pairCells, nextColumn]

/-- From row k upwards a pair is visited to the top. -/
theorem walk_up {k : Nat} (hk : k < n) :
    walk n (fuel + (k + 1)) col k (-1)
      = (List.range (k + 1)).reverse.flatMap (pairCells col) ++ walk n fuel (nextColumn col) 0 1 := by
  induction k with
  | zero =>
    rw [Nat.zero_add, walk_turn hcol (.inl (by omega))]
    rfl
  | succ k ih =>
    have hprev : ((k + 1 : Nat) : Int) + -1 = k := by omega
    rw [← Nat.add_assoc, walk_step hcol (by omega) (by omega), hprev, ih (Nat.lt_of_succ_lt hk),
      List.range_succ (n := k + 1), List.reverse_concat, List.flatMap_cons, List.append_assoc]

/-- From the k-th row from the bottom downwards a pair is visited to the bottom. -/
theorem walk_down {k : Nat} (hk : row + k + 1 = n) :
    walk n (fuel + (k + 1)) col row 1
      = (List.range' row (k + 1)).flatMap (pairCells col) ++ walk n fuel (nextColumn col) ((n : Int) - 1) (-1) := by
  induction k generalizing row with
  | zero =>
    have hlast : (row : Int) = (n : Int) - 1 := by omega
    rw [Nat.zero_add, walk_turn hcol (.inr (by omega)), hlast]
    simp
  | succ k ih =>
    have hnext : (row : Int) + 1 = ((row + 1 : Nat) : Int) := by omega
    rw [← Nat.add_assoc, walk_step hcol (by omega) (by omega), hnext, ih (by omega), List.range'_succ (n := k + 1),
      List.flatMap_cons, List.append_assoc]

end

/-- The row where the pair numbered p is entered. -/
def entryRow (n p : Nat) : Int := if p % 2 = 0 then (n : Int) - 1 else 0

/-- The direction in which the pair numbered p is visited. -/
def direction (p : Nat) : Int := if p % 2 = 0 then -1 else 1

/-- One pair of columns. -/
theorem walk_pair {fuel col p : Nat} (hn : 0 < n) (hcol : 0 < col) :
    walk n (fuel + n) col (entryRow n p) (direction p)
      = (pathRows n p).flatMap (pairCells col)
        ++ walk n fuel (nextColumn col) (entryRow n (p + 1)) (direction (p + 1)) := by
  obtain ⟨k, rfl⟩ := Nat.exists_eq_add_of_lt hn
  rw [Nat.zero_add]
  have hlast : ((k + 1 : Nat) : Int) - 1 = k := by omega
  obtain hp | hp : p % 2 = 0 ∨ p % 2 = 1 := by omega
  · have hp' : ¬ (p + 1) % 2 = 0 := by omega
    simp only [entryRow, direction, pathRows, if_pos hp, if_neg hp', hlast]
    exact walk_up hcol (Nat.lt_succ_self k)
  · have hp' : (p + 1) % 2 = 0 := by omega
    have hp0 : ¬ p % 2 = 0 := by omega
    simp only [entryRow, direction, pathRows, if_neg hp0, if_pos hp', List.range_eq_range']
    exact walk_down hcol (row := 0) (by omega)

/-- Column 6 holds no data: a pair whose right column would be 6 is the pair of column 5 (R200). -/
theorem pathColumns_six (fuel : Nat) : pathColumns fuel 6 = pathColumns fuel 5 := by
  cases fuel <;> rfl

theorem walk_eq_flatMap_zipIdx (hn : 0 < n) {m col p : Nat} (hcol : col ≠ 6) :
    walk n (n * m) col (entryRow n p) (direction p)
      = ((pathColumns m col).zipIdx p).flatMap fun cp => (pathRows n cp.2).flatMap (pairCells cp.1) := by
  induction m generalizing col p with
  | zero => rfl
  | succ m ih =>
    obtain rfl | hpos := Nat.eq_zero_or_pos col
    · rw [walk_of_le_zero Nat.cast_zero.le]
      rfl
    rw [Nat.mul_succ, walk_pair hn hpos, pathColumns, if_neg hpos.ne', if_neg hcol]
    dsimp only
    rw [List.zipIdx_cons, List.flatMap_cons]
    refine congrArg (_ ++ ·) ?_
    obtain rfl | rfl | hfar : col = 8 ∨ col = 1 ∨ (2 ≤ col ∧ col ≠ 8) := by omega
    · rw [pathColumns_six, ← ih (by decide)]
      rfl
    · rw [walk_of_le_zero (by decide)]
      cases m <;> rfl
    · have hnext : nextColumn col = ((col - 2 : Nat) : Int) := by
        rw [nextColumn, if_neg (by omega)]
        omega
      rw [hnext, ih (by omega)]

theorem path_eq_walk (hn : 21 ≤ n) : path n = walk n (n * n) ((n : Int) - 1) ((n : Int) - 1) (-1) := by
  have hlast : (n : Int) - 1 = ((n - 1 : Nat) : Int) := by omega
  have h := walk_eq_flatMap_zipIdx (n := n) (m := n) (col := n - 1) (p := 0) (by omega) (by omega)
  rw [← hlast] at h
  exact h.symm

/-! ## Every cell outside column 6, once -/

/-- The pairs of columns cover each column but 6 (R200). -/
theorem exists_mem_pathColumns {fuel col c : Nat} (hcol : (col % 2 = 1 ∧ col ≤ 5) ∨ (col % 2 = 0 ∧ 6 ≤ col))
    (hfuel : col ≤ fuel) : (∃ a ∈ pathColumns fuel col, c = a ∨ c = a - 1) ↔ c ≤ col ∧ c ≠ 6 := by
  induction fuel generalizing col with
  | zero => omega
  | succ fuel ih =>
    rw [pathColumns, if_neg (by omega)]
    dsimp only
    rw [List.exists_mem_cons_iff]
    obtain rfl | rfl | hmid : col = 1 ∨ col = 6 ∨ (3 ≤ col ∧ col ≠ 6) := by omega
    · have hnil : pathColumns fuel 0 = [] := by cases fuel <;> rfl
      simp [hnil]
      omega
    · rw [if_pos rfl, ih (by decide) (by omega)]
      omega
    · rw [if_neg hmid.2, ih (by omega) (by omega)]
      omega

theorem pos_of_mem_pathColumns {fuel col c : Nat} (h : c ∈ pathColumns fuel col) : 0 < c := by
  induction fuel generalizing col with
  | zero => cases h
  | succ fuel ih =>
    rw [pathColumns] at h
    split at h
    next => cases h
    next hcol =>
      obtain rfl | h := List.mem_cons.mp h
      · split <;> omega
      · exact ih h

/-- The pairs do not overlap. -/
theorem pairwise_pathColumns (fuel col : Nat) : (pathColumns fuel col).Pairwise (fun a b => b + 2 ≤ a) := by
  induction fuel generalizing col with
  | zero => exact .nil
  | succ fuel ih =>
    rw [pathColumns]
    split
    next => exact .nil
    next =>
      refine List.pairwise_cons.mpr ⟨fun b hb => ?_, ih _⟩
      have hle := le_of_mem_pathColumns hb
      have hpos := pos_of_mem_pathColumns hb
      omega

theorem mem_path {rc : Nat × Nat} :
    rc ∈ path n ↔ rc.1 < n ∧ ∃ a ∈ pathColumns n (n - 1), rc.2 = a ∨ rc.2 = a - 1 := by
  obtain ⟨r, c⟩ := rc
  simp only [path, List.mem_flatMap, mem_pathRows, List.mem_cons, List.not_mem_nil, or_false, Prod.mk.injEq]
  constructor
  · rintro ⟨cp, hcp, row, hrow, ⟨rfl, rfl⟩ | ⟨rfl, rfl⟩⟩
    · exact ⟨hrow, cp.1, List.fst_mem_of_mem_zipIdx hcp, .inl rfl⟩
    · exact ⟨hrow, cp.1, List.fst_mem_of_mem_zipIdx hcp, .inr rfl⟩
  · rintro ⟨hr, a, ha, hc⟩
    obtain ⟨p, hp, rfl⟩ := List.getElem_of_mem ha
    exact ⟨_, List.mk_mem_zipIdx_iff_getElem?.mpr (List.getElem?_eq_getElem hp), r, hr,
      hc.imp (fun h => ⟨rfl, h⟩) fun h => ⟨rfl, h⟩⟩

theorem mem_path_iff (hn : 21 ≤ n) (hodd : n % 2 = 1) (r c : Nat) : (r, c) ∈ path n ↔ r < n ∧ c < n ∧ c ≠ 6 := by
  rw [mem_path, exists_mem_pathColumns (.inr (by omega)) (by omega)]
  omega

theorem nodup_pathRows (n p : Nat) : (pathRows n p).Nodup := by
  unfold pathRows
  split
  next => exact List.nodup_reverse.mpr List.nodup_range
  next => exact List.nodup_range

theorem mem_pairCells {col row : Nat} {rc : Nat × Nat} :
    rc ∈ pairCells col row ↔ rc.1 = row ∧ (rc.2 = col ∨ rc.2 = col - 1) := by
  simp only [pairCells, List.mem_cons, List.not_mem_nil, or_false, Prod.ext_iff, and_or_left]

theorem nodup_pairCells {col : Nat} (hcol : 0 < col) (row : Nat) : (pairCells col row).Nodup := by
  simp [pairCells]
  omega

theorem path_nodup (n : Nat) : (path n).Nodup := by
  have hcolumns : ((pathColumns n (n - 1)).zipIdx).Pairwise (fun a b => b.1 + 2 ≤ a.1) := by
    rw [← List.pairwise_map (f := Prod.fst) (R := fun a b => b + 2 ≤ a), List.zipIdx_map_fst]
    exact pairwise_pathColumns _ _
  refine List.nodup_flatMap.mpr ⟨fun cp hcp => ?_, hcolumns.imp fun {a b} hab => ?_⟩
  · have hpos := pos_of_mem_pathColumns (List.fst_mem_of_mem_zipIdx hcp)
    refine List.nodup_flatMap.mpr
      ⟨fun row _ => nodup_pairCells hpos row, (nodup_pathRows n cp.2).imp fun {a b} hab rc ha hb => ?_⟩
    exact hab ((mem_pairCells.mp ha).1.symm.trans (mem_pairCells.mp hb).1)
  · intro rc ha hb
    obtain ⟨_, -, ha⟩ := List.mem_flatMap.mp ha
    obtain ⟨_, -, hb⟩ := List.mem_flatMap.mp hb
    have hca := (mem_pairCells.mp ha).2
    have hcb := (mem_pairCells.mp hb).2
    omega

/-- Settles O52: the loop by pairs of columns, and the pairs as a cover without overlap. -/
theorem pathIsTheZigZag : Obligations.PathIsTheZigZag := by
  unfold Obligations.PathIsTheZigZag
  intro n hlegal hpos
  obtain ⟨hlow, -, hmod⟩ := (legalDimension_iff.mp hlegal).resolve_left hpos
  exact ⟨path_eq_walk hlow, path_nodup n, mem_path_iff hlow (by omega)⟩

end Sys2Proof.Machine
end

section
/-!
PROOFS. Data placement (O53): since the path visits no cell twice, the cells the literal loop assigns are those
unassigned before the command, in visiting order (R201, log 13).
-/

namespace Sys2Proof.Machine

open Sys2Proof.Claims

/-! ## One data cell (R199, R201) -/

theorem maskFlips_eq_flips (m : MaskId) (i j : Nat) : maskFlips m i j = flips m.val i j := by
  fin_cases m <;> rfl

theorem streamBit_eq_streamBitAt (s : State) (b : Nat) : s.streamBit b = streamBitAt s b := by
  rw [State.streamBit, streamBitAt, BitVec.getLsbD, Nat.testBit_eq_decide_div_mod_eq]
  rfl

/-- A data cell is dark when its stream bit and its mask bit differ. -/
theorem moduleOfDark_xor (a b : Bool) : moduleOfDark (a ^^ b) = if a = b then .light else .dark := by
  cases a <;> cases b <;> rfl

/-! ## The loop -/

section
variable {s : State} {m : MaskId}

theorem mapVisit_of_assigned {g : Grid} {b : Nat} {rc : Nat × Nat} (h : g.get rc.1 rc.2 ≠ .unassigned) :
    mapVisit s m (g, b) rc = (g, b) := if_neg h

theorem mapVisit_of_unassigned {g : Grid} {b : Nat} {rc : Nat × Nat} (h : g.get rc.1 rc.2 = .unassigned) :
    mapVisit s m (g, b) rc = (g.paint rc.1 rc.2 (s.streamBit b ^^ maskFlips m rc.1 rc.2), b + 1) := by
  rw [Grid.paint, moduleOfDark_xor, streamBit_eq_streamBitAt, maskFlips_eq_flips]
  exact if_pos h

/-- The cells of a list that are unassigned in a grid. -/
def freeCells (g : Grid) (l : List (Nat × Nat)) : List (Nat × Nat) := l.filter (fun rc => g.get rc.1 rc.2 = .unassigned)

theorem mem_freeCells {g : Grid} {l : List (Nat × Nat)} {rc : Nat × Nat} :
    rc ∈ freeCells g l ↔ rc ∈ l ∧ g.get rc.1 rc.2 = .unassigned := by
  simp [freeCells]

/-- Painting a cell leaves the cells elsewhere as they were. -/
theorem freeCells_paint {g : Grid} {rc : Nat × Nat} {l : List (Nat × Nat)} (h : rc ∉ l) (dark : Bool) :
    freeCells (g.paint rc.1 rc.2 dark) l = freeCells g l := by
  refine List.filter_congr fun x hx => ?_
  rw [Grid.get_paint, if_neg]
  rintro ⟨h1, h2⟩
  exact h (Prod.ext h1 h2 ▸ hx)

/-- The writes of data cells, from stream bit b on. -/
def dataWrites (s : State) (m : MaskId) (cells : List (Nat × Nat)) (b : Nat) : List CellWrite :=
  (cells.zipIdx b).map fun x => (x.1.1, x.1.2, s.streamBit x.2 ^^ maskFlips m x.1.1 x.1.2)

theorem mapCells_eq (s : State) (m : MaskId) (n : Nat) :
    s.mapCells m n = dataWrites s m (freeCells s.grid (path n)) 0 := rfl

theorem exists_mem_dataWrites {cells : List (Nat × Nat)} {b r c : Nat} :
    (∃ x ∈ dataWrites s m cells b, x.1 = r ∧ x.2.1 = c) ↔ (r, c) ∈ cells := by
  have hplaces : (dataWrites s m cells b).map (fun x => (x.1, x.2.1)) = cells := by
    rw [dataWrites, List.map_map]
    exact List.zipIdx_map_fst b cells
  conv_rhs => rw [← hplaces, List.mem_map]
  simp only [Prod.mk.injEq]

/-- Over a list without repeats the loop paints the cells that were unassigned at its start. -/
theorem foldl_mapVisit {l : List (Nat × Nat)} (hl : l.Nodup) (g : Grid) (b : Nat) :
    l.foldl (mapVisit s m) (g, b)
      = (g.paintAll (dataWrites s m (freeCells g l) b), b + (freeCells g l).length) := by
  induction l generalizing g b with
  | nil => rfl
  | cons rc rest ih =>
    obtain ⟨hrc, hrest⟩ := List.nodup_cons.mp hl
    rw [List.foldl_cons]
    by_cases hfree : g.get rc.1 rc.2 = .unassigned
    · have hcells : freeCells g (rc :: rest) = rc :: freeCells g rest :=
        List.filter_cons_of_pos (decide_eq_true hfree)
      rw [mapVisit_of_unassigned hfree, ih hrest, freeCells_paint hrc, hcells, List.length_cons, Nat.add_right_comm]
      rfl
    · have hcells : freeCells g (rc :: rest) = freeCells g rest :=
        List.filter_cons_of_neg (by simpa using hfree)
      rw [mapVisit_of_assigned hfree, ih hrest, hcells]

end

/-! ## The command -/

variable {s : State} {m : MaskId} {n : Nat}

/-- After MX.MAP every cell outside column 6 is assigned (R200). -/
theorem get_mapCells_ne_unassigned (hn : 21 ≤ n) (hodd : n % 2 = 1) {r c : Nat} (hr : r < n) (hc : c < n) (h6 : c ≠ 6) :
    (s.grid.paintAll (s.mapCells m n)).get r c ≠ .unassigned := by
  refine Grid.get_paintAll_ne_unassigned (or_iff_not_imp_right.mpr fun hfree => ?_)
  rw [mapCells_eq, exists_mem_dataWrites, mem_freeCells, mem_path_iff hn hodd]
  exact ⟨⟨hr, hc, h6⟩, not_not.mp hfree⟩

/-- A cell assigned before keeps its code. -/
theorem get_mapCells_of_assigned {r c : Nat} (h : s.grid.get r c ≠ .unassigned) :
    (s.grid.paintAll (s.mapCells m n)).get r c = s.grid.get r c := by
  refine Grid.get_paintAll_other _ _ _ _ fun x hx hplace => h ?_
  exact (mem_freeCells.mp (exists_mem_dataWrites.mp ⟨x, hx, hplace⟩)).2

/-- Settles O53: the literal loop runs over the path, on which it paints the model's data cells. -/
theorem mxMapIsTheSequentialLoop : Obligations.MxMapIsTheSequentialLoop := by
  unfold Obligations.MxMapIsTheSequentialLoop
  intro s m h n loop
  obtain ⟨hlow, -, hmod⟩ := dim_of_hasGrid h
  have hloop : loop = (s.grid.paintAll (s.mapCells m n), (dataCells n s.grid).length) := by
    have hwalk : loop = (path n).foldl (mapVisit s m) (s.grid, 0) := congrArg (List.foldl _ _) (path_eq_walk hlow).symm
    rw [hwalk, foldl_mapVisit (path_nodup n), Nat.zero_add]
    rfl
  rw [hloop]
  exact ⟨_, exec_of_commandBody_ok (i := .mxMap m) (mxMapBody_eq_ok.mpr ⟨h.1, rfl⟩), rfl,
    fun r c => get_mapCells_ne_unassigned hlow (by omega), fun r c => get_mapCells_of_assigned⟩

end Sys2Proof.Machine
end

section
/-!
PROOFS. The whole build (O54, O55): MX.BUILD completes with the data placed on the grid its six layout steps leave, whose
column 6 is complete, and it is the seven steps run as commands of their own but for their ends.
-/

namespace Sys2Proof.Machine

open Sys2Proof.Claims

/-! ## The grid before the data (R202) -/

/-- The finder, alignment and timing patterns on an empty grid of dimension n. -/
def patternGrid (s : State) (n : Nat) : Grid :=
  ((pairs s.centres s.centres).foldl Grid.paintAlignment (Grid.paintAll [] (finderCells n))).fillAll (timingCells n)

/-- The patterns with the format information. -/
def formattedGrid (s : State) (n : Nat) (m : MaskId) (trial : Bool) : Grid :=
  (patternGrid s n).paintAll (formatCells n (formatBits s.eclevel m) trial)

/-- All that stands on the grid when MX.MAP begins. -/
def layoutGrid (s : State) (n : Nat) (m : MaskId) (trial : Bool) : Grid :=
  if latchedVersion n < 7 then formattedGrid s n m trial
  else (formattedGrid s n m trial).paintAll (versionCells n (versionBits (latchedVersion n)) trial)

section
variable {s : State} {n : Nat} {m : MaskId} {trial : Bool}

theorem patternGrid_within (hn : 21 ≤ n) (h : centresOk s n) : (patternGrid s n).within n = true := by
  have hcentres := badCentre_eq_none.mp (badCentre_of_centresOk h)
  refine Grid.within_fillAll (Grid.paintAlignments_ok (Grid.wf_paintAll _ _ rfl)
    (Grid.within_paintAll rfl cellsWithin_finderCells) fun x hx => ?_).2 (cellsWithin_timingCells hn)
  obtain ⟨h1, h2⟩ := mem_pairs.mp hx
  exact ⟨(hcentres _ h1).2, (hcentres _ h2).2⟩

theorem layoutGrid_within (hn : 21 ≤ n) (h : centresOk s n) : (layoutGrid s n m trial).within n = true := by
  have hformat : (formattedGrid s n m trial).within n = true :=
    Grid.within_paintAll (patternGrid_within hn h) (cellsWithin_formatCells hn _ _)
  unfold layoutGrid
  split
  next => exact hformat
  next => exact Grid.within_paintAll hformat (cellsWithin_versionCells hn _ _)

/-- The timing pattern completes column 6 (R193). -/
theorem get_patternGrid_column_six (hn : 21 ≤ n) {r : Nat} (hr : r < n) : (patternGrid s n).get r 6 ≠ .unassigned := by
  rw [patternGrid, get_fillAll_timingCells hn]
  split
  next => exact moduleOfDark_assigned _
  next hset => exact fun hfree => hset ⟨hfree, hr, by omega, .inr rfl⟩

theorem get_layoutGrid_column_six (hn : 21 ≤ n) {r : Nat} (hr : r < n) :
    (layoutGrid s n m trial).get r 6 ≠ .unassigned := by
  have hformat : (formattedGrid s n m trial).get r 6 ≠ .unassigned :=
    Grid.get_paintAll_ne_unassigned (.inr (get_patternGrid_column_six hn hr))
  unfold layoutGrid
  split
  next => exact hformat
  next => exact Grid.get_paintAll_ne_unassigned (.inr hformat)

end

/-- A cell outside a grid's range is unassigned. -/
theorem Grid.get_of_within {g : Grid} {n r c : Nat} (h : g.within n = true) (hout : n ≤ r ∨ n ≤ c) :
    g.get r c = .unassigned := by
  rw [Grid.within_iff] at h
  obtain hnil | hrow := Store.read_eq_or_mem [] g r
  · rw [Grid.get, hnil, Store.read_nil]
  · obtain ⟨hr, hcells⟩ := h _ hrow
    refine (Store.read_eq_or_mem .unassigned (Store.read [] g r) c).resolve_right fun hcell => ?_
    have hc := hcells _ hcell
    dsimp only at hr hc
    omega

/-! ## The steps of a build (R202) -/

section
variable {s : State} {m : MaskId} {trial : Bool}

/-- What MX.CLR leaves. -/
def clearedState (s : State) : State := { s with modcnt := Word.ofNat (newDim s), grid := [] }

/-- What MX.CLR and MX.FND leave. -/
def finderState (s : State) : State :=
  { clearedState s with grid := Grid.paintAll [] (finderCells (clearedState s).modcnt.toNat) }

/-- What the six layout steps leave. -/
def layoutState (s : State) (m : MaskId) (trial : Bool) : State :=
  { clearedState s with grid := layoutGrid s (clearedState s).modcnt.toNat m trial }

/-- What the build leaves. -/
def builtState (s : State) (m : MaskId) (trial : Bool) : State :=
  let t := layoutState s m trial
  ({ t with grid := t.grid.paintAll (t.mapCells m t.modcnt.toNat) }).setResult (dataCells t.modcnt.toNat t.grid).length

theorem dim_clearedState (h : versionOk s) : (clearedState s).modcnt.toNat = newDim s :=
  toNat_wordOfNat (by rw [newDim]; omega)

theorem modcnt_clearedState_ne_zero (h : versionOk s) : (clearedState s).modcnt ≠ 0#32 := by
  intro hzero
  have hdim := dim_clearedState h
  rw [hzero, BitVec.toNat_zero, newDim] at hdim
  omega

theorem mxClrBody_of_versionOk (h : versionOk s) : mxClrBody s = .ok (clearedState s) := mxClrBody_eq_ok.mpr ⟨h, rfl⟩

theorem mxFndBody_clearedState (h : versionOk s) : mxFndBody (clearedState s) = .ok (finderState s) :=
  mxFndBody_eq_ok.mpr ⟨modcnt_clearedState_ne_zero h, rfl⟩

/-- With VERSION and the centres in order each of the seven steps completes. -/
theorem mxBuild_steps (hv : versionOk s) (hc : centresOk s (newDim s)) :
    ∃ s3 s4 s5, mxClrBody s = .ok (clearedState s) ∧ mxFndBody (clearedState s) = .ok (finderState s) ∧
      mxAlnBody (finderState s) = .ok s3 ∧ mxTimBody s3 = .ok s4 ∧ mxFmtBody m trial s4 = .ok s5 ∧
      mxVerBody trial s5 = .ok (layoutState s m trial) ∧
      mxMapBody m (layoutState s m trial) = .ok (builtState s m trial) := by
  have hgrid := modcnt_clearedState_ne_zero hv
  rw [← dim_clearedState hv] at hc
  exact ⟨_, _, _, mxClrBody_of_versionOk hv, mxFndBody_clearedState hv,
    mxAlnBody_eq_ok.mpr ⟨hgrid, badCentre_of_centresOk hc, rfl⟩, mxTimBody_eq_ok.mpr ⟨hgrid, rfl⟩,
    mxFmtBody_eq_ok.mpr ⟨hgrid, rfl⟩, mxVerBody_eq_ok.mpr ⟨hgrid, rfl⟩, mxMapBody_eq_ok.mpr ⟨hgrid, rfl⟩⟩

theorem mxBuildBody_of_ok (hv : versionOk s) (hc : centresOk s (newDim s)) :
    mxBuildBody m trial s = .ok (builtState s m trial) := by
  obtain ⟨s3, s4, s5, hclr, hfnd, haln, htim, hfmt, hver, hmap⟩ := mxBuild_steps (m := m) (trial := trial) hv hc
  rw [mxBuildBody, hclr, bind_ok, hfnd, bind_ok, haln, bind_ok, htim, bind_ok, hfmt, bind_ok, hver, bind_ok, hmap]

theorem mxBuildBody_of_bad_version (h : ¬ versionOk s) :
    mxBuildBody m trial s = .error (.invalidParameter .version (s.version.setWidth 32)) := by
  rw [mxBuildBody, mxClrBody_of_bad_version h, bind_error]

theorem mxBuildBody_of_bad_centre (hv : versionOk s) {k : Nat} (hk : k < s.alncnt.toNat)
    (hbefore : ∀ j < k, centreOk s (newDim s) j) (hbad : ¬ centreOk s (newDim s) k) :
    mxBuildBody m trial s = .error (.invalidParameter .alnTab (Word.ofNat k)) := by
  have hfind : badCentre (finderState s).modcnt.toNat s.centres = some k := by
    rw [finderState, dim_clearedState hv]
    exact badCentre_eq_some hk hbefore hbad
  rw [mxBuildBody, mxClrBody_of_versionOk hv, bind_ok, mxFndBody_clearedState hv, bind_ok,
    mxAlnBody_of_badCentre (s := finderState s) (modcnt_clearedState_ne_zero hv) hfind, bind_error]

end

/-- Settles O54: column 6 is complete before MX.MAP, every other column after it, and no step leaves the symbol. -/
theorem mxBuildAssignsEveryModule : Obligations.MxBuildAssignsEveryModule := by
  unfold Obligations.MxBuildAssignsEveryModule
  intro s m trial n hv hc
  have hdim : (layoutState s m trial).modcnt.toNat = n := dim_clearedState hv
  have hgrid : (layoutState s m trial).grid = layoutGrid s n m trial :=
    congrArg (layoutGrid s · m trial) (dim_clearedState hv)
  refine ⟨_, _, exec_of_commandBody_ok (i := .mxBuild m trial) (mxBuildBody_of_ok hv hc), fun r c hr hcol => ?_,
    fun r c => Grid.get_of_within ?_⟩
  · rw [hdim]
    obtain rfl | hcol6 := eq_or_ne c 6
    · refine Grid.get_paintAll_ne_unassigned (.inr ?_)
      rw [hgrid]
      exact get_layoutGrid_column_six (by omega) hr
    · exact get_mapCells_ne_unassigned (by omega) (by omega) hr hcol hcol6
  · rw [hdim]
    refine Grid.within_paintAll ?_ (cellsWithin_mapCells _ m)
    rw [hgrid]
    exact layoutGrid_within (by omega) hc

/-! ## Commands in a row -/

/-- `s` after k commands have ended normally. -/
def State.ended (s : State) (k : Nat) : State :=
  { s with status := s.status.normal, cmdcnt := s.cmdcnt + BitVec.ofNat 32 k, delay := 0 }

theorem State.normalEnd_ended (s : State) (k : Nat) : (s.ended k).normalEnd = s.ended (k + 1) := by
  have hcount : s.cmdcnt + BitVec.ofNat 32 k + 1#32 = s.cmdcnt + BitVec.ofNat 32 (k + 1) := by
    rw [BitVec.add_assoc, BitVec.ofNat_add]
  exact congrArg (fun w => { s with status := s.status.normal, cmdcnt := w, delay := 0 }) hcount

/-- A command's pseudocode does the same after k normal ends: it neither reads nor writes what an end of step writes. -/
def IgnoresEnds (i : Instr) : Prop :=
  ∀ (s u : State) (k : Nat), commandBody i s = .ok u → commandBody i (s.ended k) = .ok (u.ended k)

theorem ignoresEnds_mxFnd : IgnoresEnds .mxFnd := by
  intro s u k h
  obtain ⟨hgrid, rfl⟩ := mxFndBody_eq_ok.mp h
  exact mxFndBody_eq_ok.mpr ⟨hgrid, rfl⟩

theorem ignoresEnds_mxAln : IgnoresEnds .mxAln := by
  intro s u k h
  obtain ⟨hgrid, hcentres, rfl⟩ := mxAlnBody_eq_ok.mp h
  exact mxAlnBody_eq_ok.mpr ⟨hgrid, hcentres, rfl⟩

theorem ignoresEnds_mxTim : IgnoresEnds .mxTim := by
  intro s u k h
  obtain ⟨hgrid, rfl⟩ := mxTimBody_eq_ok.mp h
  exact mxTimBody_eq_ok.mpr ⟨hgrid, rfl⟩

theorem ignoresEnds_mxFmt (m : MaskId) (trial : Bool) : IgnoresEnds (.mxFmt m trial) := by
  intro s u k h
  obtain ⟨hgrid, rfl⟩ := mxFmtBody_eq_ok.mp h
  exact mxFmtBody_eq_ok.mpr ⟨hgrid, rfl⟩

theorem ignoresEnds_mxVer (trial : Bool) : IgnoresEnds (.mxVer trial) := by
  intro s u k h
  obtain ⟨hgrid, rfl⟩ := mxVerBody_eq_ok.mp h
  exact mxVerBody_eq_ok.mpr ⟨hgrid, rfl⟩

theorem ignoresEnds_mxMap (m : MaskId) : IgnoresEnds (.mxMap m) := by
  intro s u k h
  obtain ⟨hgrid, rfl⟩ := mxMapBody_eq_ok.mp h
  exact mxMapBody_eq_ok.mpr ⟨hgrid, rfl⟩

section
variable {i : Instr} {rest : List Instr} {s u : State}

theorem runAll_cons_of_exec {t : State} (h : exec i s = .next t) : runAll (i :: rest) s = runAll rest t := by
  rw [runAll, h]

/-- The first command of a row. -/
theorem runAll_cons (h : commandBody i s = .ok u) : runAll (i :: rest) s = runAll rest (u.ended 1) :=
  runAll_cons_of_exec (exec_of_commandBody_ok h)

/-- A later command of a row. -/
theorem runAll_cons_ended (hi : IgnoresEnds i) (h : commandBody i s = .ok u) (k : Nat) :
    runAll (i :: rest) (s.ended k) = runAll rest (u.ended (k + 1)) := by
  rw [runAll_cons_of_exec (exec_of_commandBody_ok (hi s u k h)), State.normalEnd_ended]

end

theorem reports_mxBuild {s : State} {m : MaskId} {trial : Bool} {e : EngineError}
    (h : mxBuildBody m trial s = .error e) : reports (.mxBuild m trial) s e :=
  ⟨_, exec_of_commandBody_error (i := .mxBuild m trial) h, rfl, rfl, rfl, rfl⟩

theorem runAll_mxBuild_steps {s : State} (m : MaskId) (trial : Bool) (hv : versionOk s) (hc : centresOk s (newDim s)) :
    runAll [.mxClr, .mxFnd, .mxAln, .mxTim, .mxFmt m trial, .mxVer trial, .mxMap m] s
      = some ((builtState s m trial).ended 7) := by
  obtain ⟨s3, s4, s5, hclr, hfnd, haln, htim, hfmt, hver, hmap⟩ := mxBuild_steps (m := m) (trial := trial) hv hc
  calc runAll [.mxClr, .mxFnd, .mxAln, .mxTim, .mxFmt m trial, .mxVer trial, .mxMap m] s
      = runAll [.mxFnd, .mxAln, .mxTim, .mxFmt m trial, .mxVer trial, .mxMap m] ((clearedState s).ended 1) :=
        runAll_cons (i := .mxClr) hclr
    _ = runAll [.mxAln, .mxTim, .mxFmt m trial, .mxVer trial, .mxMap m] ((finderState s).ended 2) :=
        runAll_cons_ended ignoresEnds_mxFnd hfnd 1
    _ = runAll [.mxTim, .mxFmt m trial, .mxVer trial, .mxMap m] (s3.ended 3) :=
        runAll_cons_ended ignoresEnds_mxAln haln 2
    _ = runAll [.mxFmt m trial, .mxVer trial, .mxMap m] (s4.ended 4) := runAll_cons_ended ignoresEnds_mxTim htim 3
    _ = runAll [.mxVer trial, .mxMap m] (s5.ended 5) := runAll_cons_ended (ignoresEnds_mxFmt m trial) hfmt 4
    _ = runAll [.mxMap m] ((layoutState s m trial).ended 6) := runAll_cons_ended (ignoresEnds_mxVer trial) hver 5
    _ = some ((builtState s m trial).ended 7) := runAll_cons_ended (ignoresEnds_mxMap m) hmap 6

/-- Settles O55: the steps as commands leave what the build leaves, each counting once in CMDCNT. -/
theorem mxBuildIsItsSteps : Obligations.MxBuildIsItsSteps := by
  unfold Obligations.MxBuildIsItsSteps
  refine fun s m trial => ⟨fun hv hc => ⟨_, exec_of_commandBody_ok (mxBuildBody_of_ok hv hc), ?_⟩,
    fun hv => reports_mxBuild (mxBuildBody_of_bad_version hv),
    fun hv k hk hbefore hbad => reports_mxBuild (mxBuildBody_of_bad_centre hv hk hbefore hbad)⟩
  rw [runAll_mxBuild_steps m trial hv hc]
  rfl

end Sys2Proof.Machine
end

section
/-!
PROOFS. The penalty rules (O57): the scores computed line by line are the four rules of R210 to R213 as sums over places.
-/

namespace Sys2Proof.Machine

open Sys2Proof.Claims

/-! ## Lines as functions of the place -/

theorem rows_eq (g : Grid) (n : Nat) :
    g.rows n = (List.range n).map fun r => (List.range n).map (g.isDark r) := rfl

/-- A line of the model lists the first n places of a line of the rules, which is light past them. -/
theorem lines_eq_linesOf (g : Grid) (n : Nat) : g.lines n = (linesOf g n).map fun line => (List.range n).map line := by
  have hcells : ∀ f : Nat → Bool, (List.range n).map f = (List.range n).map fun p => decide (p < n) && f p :=
    fun f => List.map_congr_left fun p hp => by simp [List.mem_range.mp hp]
  unfold Grid.lines Grid.rows Grid.columns linesOf
  rw [List.map_append, List.map_map, List.map_map]
  congr 1
  · refine List.map_congr_left fun r _ => (hcells (g.isDark r)).trans ?_
    simp only [Grid.isDark, Function.comp_apply, Bool.decide_and]
  · refine List.map_congr_left fun c _ => (hcells fun r => g.isDark r c).trans ?_
    simp only [Grid.isDark, Function.comp_apply, Bool.decide_and]

theorem linesOf_light {g : Grid} {n : Nat} {line : Line} (h : line ∈ linesOf g n) {p : Nat} (hp : n ≤ p) :
    line p = false := by
  have hout : ¬ p < n := Nat.not_lt.mpr hp
  simp only [linesOf, List.mem_append, List.mem_map] at h
  obtain ⟨_, -, rfl⟩ | ⟨_, -, rfl⟩ := h <;> simp [hout]

/-! ## Rule A: the runs of a line (R210) -/

/-- What the places of rule A add up to at place p: the score of the maximal run that begins there. -/
def runScoreAt (n : Nat) (line : Line) (p : Nat) : Nat :=
  ((List.range (n + 1)).map fun l => if maximalRun n line p l ∧ 5 ≤ l then 3 + (l - 5) else 0).sum

section
variable {n p l : Nat} {line : Line}

theorem maximalRun_iff :
    maximalRun n line p l = true ↔
      1 ≤ l ∧ p + l ≤ n ∧ (∀ j < l, line (p + j) = line p) ∧ (p = 0 ∨ line (p - 1) ≠ line p) ∧
        (p + l = n ∨ line (p + l) ≠ line p) := by
  simp [maximalRun, and_assoc]

theorem maximalRun_length_le {l' : Nat} (h : maximalRun n line p l = true) (h' : maximalRun n line p l' = true) :
    l' ≤ l := by
  obtain ⟨-, -, -, -, hend⟩ := maximalRun_iff.mp h
  obtain ⟨-, hin, hcells, -, -⟩ := maximalRun_iff.mp h'
  by_contra hlt
  exact hend.elim (by omega) (· (hcells l (by omega)))

/-- At most one maximal run begins at a place. -/
theorem runScoreAt_of_maximalRun (h : maximalRun n line p l = true) : runScoreAt n line p = runScore l := by
  obtain ⟨-, hin, -⟩ := maximalRun_iff.mp h
  have hother : ∀ l', l' ≠ l → l' ∈ List.range (n + 1) →
      (if maximalRun n line p l' ∧ 5 ≤ l' then 3 + (l' - 5) else 0) = 0 := fun l' hne _ =>
    if_neg fun ⟨h', _⟩ => hne (Nat.le_antisymm (maximalRun_length_le h h') (maximalRun_length_le h' h))
  rw [runScoreAt, List.sum_map_eq_nsmul_single l _ hother, List.count_range, if_pos (by omega), one_nsmul]
  simp [h, runScore]

/-- No maximal run begins at a place that continues the run before it. -/
theorem runScoreAt_of_continued (hp : p ≠ 0) (h : line (p - 1) = line p) : runScoreAt n line p = 0 := by
  refine List.sum_eq_zero fun x hx => ?_
  obtain ⟨l, -, rfl⟩ := List.mem_map.mp hx
  refine if_neg fun ⟨hrun, _⟩ => ?_
  obtain ⟨-, -, -, hstart, -⟩ := maximalRun_iff.mp hrun
  exact hstart.elim hp (· h)

/-- The scores of the runs from place p on, of which the first k cells are already known to be of one colour. -/
theorem sum_runsFrom (m : Nat) {p k : Nat} (hk : 1 ≤ k) (hn : p + k + m = n) (hcells : ∀ j < k, line (p + j) = line p)
    (hstart : p = 0 ∨ line (p - 1) ≠ line p) :
    ((runsFrom (line p) k ((List.range' (p + k) m).map line)).map runScore).sum
      = runScoreAt n line p + ((List.range' (p + k) m).map (runScoreAt n line)).sum := by
  induction m generalizing p k with
  | zero =>
    rw [runScoreAt_of_maximalRun (maximalRun_iff.mpr ⟨hk, by omega, hcells, hstart, .inl (by omega)⟩)]
    simp [runsFrom]
  | succ m ih =>
    have hlast : line (p + k - 1) = line p := by
      rw [Nat.add_sub_assoc hk]
      exact hcells (k - 1) (by omega)
    rw [List.range'_succ, List.map_cons, List.map_cons, List.sum_cons, runsFrom]
    by_cases hnext : line (p + k) = line p
    · rw [if_pos hnext, runScoreAt_of_continued (by omega) (hlast.trans hnext.symm), Nat.zero_add]
      refine ih (k := k + 1) (by omega) (by omega) (fun j hj => ?_) hstart
      obtain hj | rfl := Nat.lt_succ_iff_lt_or_eq.mp hj
      · exact hcells j hj
      · exact hnext
    · have hrun : maximalRun n line p k = true :=
        maximalRun_iff.mpr ⟨hk, by omega, hcells, hstart, .inr hnext⟩
      rw [if_neg hnext, List.map_cons, List.sum_cons, ← runScoreAt_of_maximalRun hrun]
      congr 1
      refine ih (p := p + k) (k := 1) le_rfl (by omega) (fun j hj => ?_) (.inr fun h => hnext (h.symm.trans hlast))
      rw [Nat.lt_one_iff.mp hj, Nat.add_zero]

end

theorem sum_runLengths (n : Nat) (line : Line) :
    ((runLengths ((List.range n).map line)).map runScore).sum = ((List.range n).map (runScoreAt n line)).sum := by
  cases n with
  | zero => rfl
  | succ m =>
    rw [List.range_eq_range', List.range'_succ]
    exact sum_runsFrom (p := 0) (k := 1) m le_rfl (by omega) (fun j hj => by rw [Nat.lt_one_iff.mp hj]) (.inl rfl)

theorem penaltyA_lines (g : Grid) (n : Nat) : penaltyA (g.lines n) = ruleA g n := by
  rw [penaltyA, ruleA, lines_eq_linesOf, List.map_map]
  exact congrArg List.sum (List.map_congr_left fun line _ => sum_runLengths n line)

/-! ## Rule B: the blocks of one colour (R211) -/

theorem map_range_succ {α : Type} (f : Nat → α) (n : Nat) :
    (List.range (n + 1)).map f = f 0 :: (List.range n).map (f ∘ Nat.succ) := by
  rw [List.range_succ_eq_map, List.map_cons, List.map_map]

theorem uniformBlocks_map_range (n : Nat) (u v : Nat → Bool) :
    uniformBlocks ((List.range n).map u) ((List.range n).map v)
      = ((List.range (n - 1)).map fun c => if u c = u (c + 1) ∧ u c = v c ∧ u c = v (c + 1) then 1 else 0).sum := by
  induction n generalizing u v with
  | zero => rfl
  | succ n ih =>
    cases n with
    | zero => rfl
    | succ n =>
      have hrest := ih (u ∘ Nat.succ) (v ∘ Nat.succ)
      simp only [map_range_succ _ n] at hrest
      simp only [map_range_succ]
      rw [uniformBlocks, Nat.add_sub_cancel, List.sum_range_succ']
      exact congrArg (_ + ·) hrest

theorem uniformBlocksOfRows_map_range (n : Nat) (row : Nat → List Bool) :
    uniformBlocksOfRows ((List.range n).map row)
      = ((List.range (n - 1)).map fun r => uniformBlocks (row r) (row (r + 1))).sum := by
  induction n generalizing row with
  | zero => rfl
  | succ n ih =>
    cases n with
    | zero => rfl
    | succ n =>
      have hrest := ih (row ∘ Nat.succ)
      rw [map_range_succ] at hrest
      rw [map_range_succ, map_range_succ, uniformBlocksOfRows, Nat.add_sub_cancel, List.sum_range_succ']
      exact congrArg (_ + ·) hrest

theorem penaltyB_rows (g : Grid) (n : Nat) : penaltyB (g.rows n) = ruleB g n := by
  rw [penaltyB, ruleB, rows_eq, uniformBlocksOfRows_map_range]
  simp only [uniformBlocks_map_range, and_left_comm (a := _ = g.isDark _ (_ + 1))]

/-! ## Rule C: the occurrences of the sequence (R212) -/

theorem countWindows_eq_sum (l : List Bool) :
    countWindows l = ((List.range l.length).map fun i => if isFinderWindow (l.drop i) then 1 else 0).sum := by
  induction l with
  | nil => rfl
  | cons x rest ih =>
    rw [countWindows, ih, List.length_cons, List.sum_range_succ']
    rfl

theorem isFinderWindow_of_short {w : List Bool} (h : w.length < 15) : isFinderWindow w = false := by
  simp [isFinderWindow, Nat.not_le.mpr h]

/-- A window is its four cells of margin, the seven of the sequence, four of margin, and what follows. -/
theorem isFinderWindow_append {before cells after rest : List Bool} (hbefore : before.length = 4)
    (hcells : cells.length = 7) (hafter : after.length = 4) :
    isFinderWindow (before ++ (cells ++ (after ++ rest)))
      = ((cells == finderSequence) && (before.all (! ·) || after.all (! ·))) := by
  have hlong : 15 ≤ (before ++ (cells ++ (after ++ rest))).length := by
    simp only [List.length_append]
    omega
  have hdrop : (before ++ (cells ++ (after ++ rest))).drop 11 = after ++ rest := by
    rw [← List.append_assoc, List.drop_left' (by rw [List.length_append, hbefore, hcells])]
  rw [isFinderWindow, decide_eq_true hlong, hdrop, List.drop_left' hbefore, List.take_left' hcells,
    List.take_left' hbefore, List.take_left' hafter, Bool.true_and]

/-- A line shifted behind its four cells of margin. -/
def marginLine (line : Line) : Line := fun k => decide (4 ≤ k) && line (k - 4)

theorem marginLine_add_four (line : Line) (p : Nat) : marginLine line (p + 4) = line p := by
  simp [marginLine]

theorem withMargins_map_range {n : Nat} {line : Line} (hlight : ∀ p, n ≤ p → line p = false) :
    withMargins ((List.range n).map line) = (List.range (n + 8)).map (marginLine line) := by
  have hbefore : List.replicate 4 false = (List.range 4).map (marginLine line) := rfl
  have hcells : (List.range n).map line = (List.range n).map (marginLine line ∘ (4 + ·)) :=
    List.map_congr_left fun p _ => by rw [Function.comp_apply, Nat.add_comm, marginLine_add_four]
  have hafter : List.replicate 4 false = (List.range 4).map (marginLine line ∘ (4 + n + ·)) := by
    refine (List.eq_replicate_iff.mpr ⟨by simp, fun b hb => ?_⟩).symm
    obtain ⟨j, -, rfl⟩ := List.mem_map.mp hb
    rw [Function.comp_apply, Nat.add_assoc, Nat.add_comm, marginLine_add_four]
    exact hlight _ (by omega)
  rw [show n + 8 = 4 + n + 4 by omega, List.range_add, List.range_add, List.map_append, List.map_append, List.map_map,
    List.map_map, ← hbefore, ← hcells, ← hafter]
  rfl

/-- The margin before place p: the four cells that stand from p on behind the shift, nearest cell last. -/
theorem all_light_before (line : Line) (p : Nat) :
    ((List.range' p 4).map (marginLine line)).all (! ·) = (List.range 4).all fun j => p ≤ j || !line (p - 1 - j) := by
  have hcell : ∀ k < 4, (!marginLine line (p + k)) = (decide (p ≤ 3 - k) || !line (p - 1 - (3 - k))) := by
    intro k hk
    have hplace : p + k - 4 = p - 1 - (3 - k) := by omega
    have hin : decide (4 ≤ p + k) = !decide (p ≤ 3 - k) := by
      rw [← decide_not, decide_eq_decide]
      omega
    rw [marginLine, hplace, hin, Bool.not_and, Bool.not_not]
  have hreverse : (List.range 4).reverse = (List.range 4).map (3 - ·) := rfl
  rw [← List.all_reverse (l := List.range 4), hreverse, List.range'_eq_map_range, List.all_map, List.all_map,
    List.all_map, Bool.eq_iff_iff, List.all_eq_true, List.all_eq_true]
  exact forall₂_congr fun k hk => (congrArg (· = true) (hcell k (List.mem_range.mp hk))).to_iff

theorem isFinderWindow_marginLine (line : Line) (p k : Nat) :
    isFinderWindow ((List.range' p (4 + (7 + (4 + k)))).map (marginLine line)) = occurrence line p := by
  have hplaces : ∀ i len, (List.range' (p + 4 + i) len).map (marginLine line)
      = (List.range len).map fun j => line (p + i + j) := by
    intro i len
    rw [List.range'_eq_map_range, List.map_map]
    refine List.map_congr_left fun j _ => ?_
    rw [Function.comp_apply, Nat.add_right_comm p, Nat.add_right_comm, marginLine_add_four]
  rw [← List.range'_append_1, ← List.range'_append_1, ← List.range'_append_1, List.map_append, List.map_append,
    List.map_append, isFinderWindow_append (by simp) (by simp) (by simp), all_light_before, hplaces 0, hplaces 7,
    List.all_map]
  rfl

/-- A sum over places whose terms from place k on are 0 stops at k. -/
theorem sum_map_range_of_zero_from {f h : Nat → Nat} {k n : Nat} (hk : k ≤ n) (hlow : ∀ i < k, f i = h i)
    (hhigh : ∀ i, k ≤ i → f i = 0) : ((List.range n).map f).sum = ((List.range k).map h).sum := by
  obtain ⟨d, rfl⟩ := Nat.exists_eq_add_of_le hk
  have hzero : ((List.range d).map (f ∘ (k + ·))).sum = 0 := by
    refine List.sum_eq_zero fun x hx => ?_
    obtain ⟨i, -, rfl⟩ := List.mem_map.mp hx
    exact hhigh _ (Nat.le_add_right k i)
  rw [List.range_add, List.map_append, List.sum_append, List.map_map, hzero, Nat.add_zero]
  exact congrArg List.sum (List.map_congr_left fun i hi => hlow i (List.mem_range.mp hi))

theorem countWindows_withMargins {n : Nat} {line : Line} (hlight : ∀ p, n ≤ p → line p = false) :
    countWindows (withMargins ((List.range n).map line))
      = ((List.range (n - 6)).map fun p => if occurrence line p then 1 else 0).sum := by
  have hdrop : ∀ i, ((List.range (n + 8)).map (marginLine line)).drop i
      = (List.range' i (n + 8 - i)).map (marginLine line) := by
    intro i
    rw [← List.map_drop, List.range_eq_range', List.drop_range', Nat.zero_add, Nat.mul_one]
  rw [withMargins_map_range hlight, countWindows_eq_sum, List.length_map, List.length_range]
  refine sum_map_range_of_zero_from (by omega) (fun i hi => ?_) fun i hi => ?_
  · rw [hdrop, show n + 8 - i = 4 + (7 + (4 + (n - 7 - i))) by omega, isFinderWindow_marginLine]
  · have hshort : ((List.range' i (n + 8 - i)).map (marginLine line)).length < 15 := by
      rw [List.length_map, List.length_range']
      omega
    rw [hdrop, isFinderWindow_of_short hshort]
    rfl

theorem penaltyC_lines (g : Grid) (n : Nat) : penaltyC (g.lines n) = ruleC g n := by
  rw [penaltyC, ruleC, lines_eq_linesOf, List.map_map]
  exact congrArg (40 * ·.sum) (List.map_congr_left fun line h => countWindows_withMargins fun p => linesOf_light h)

/-! ## Rule D: the balance of dark cells (R213) -/

theorem count_true_map_range (n : Nat) (f : Nat → Bool) :
    ((List.range n).map f).count true = ((List.range n).map fun c => if f c then 1 else 0).sum := by
  induction n with
  | zero => rfl
  | succ n ih =>
    rw [List.sum_range_succ, ← ih, List.range_succ, List.map_append, List.count_append]
    cases hf : f n <;> simp [hf]

theorem darkCount_rows (g : Grid) (n : Nat) : darkCount (g.rows n) = darkCells g n := by
  rw [darkCount, darkCells, rows_eq, List.map_map]
  exact congrArg List.sum (List.map_congr_left fun r _ => count_true_map_range n (g.isDark r))

theorem darkCells_le (g : Grid) (n : Nat) : darkCells g n ≤ n * n := by
  have hrow : ∀ k ∈ (g.rows n).map (·.count true), k ≤ n := by
    intro k hk
    obtain ⟨row, hrow, rfl⟩ := List.mem_map.mp hk
    obtain ⟨r, -, rfl⟩ := List.mem_map.mp hrow
    exact List.count_le_length.trans (by simp)
  have hsum := List.sum_le_card_nsmul _ _ hrow
  rwa [List.length_map, rows_eq, List.length_map, List.length_range, smul_eq_mul, ← rows_eq, ← darkCount,
    darkCount_rows] at hsum

theorem penaltyD_eq_gap (k t : Nat) : penaltyD k t = 10 * (gap (100 * k) (50 * t) / (5 * t)) := by
  have hgap : ((100 * k : Int) - 50 * t).natAbs = gap (100 * k) (50 * t) := by
    unfold gap
    omega
  rw [penaltyD, hgap]

theorem penaltyD_le {k t : Nat} (h : k ≤ t) : penaltyD k t ≤ 100 := by
  have hgap : gap (100 * k) (50 * t) ≤ 5 * t * 10 := by
    unfold gap
    omega
  rw [penaltyD_eq_gap]
  exact Nat.mul_le_mul_left 10 (Nat.div_le_of_le_mul hgap)

/-! ## The score -/

/-- The four rules and the dark count, as a score. -/
theorem score_eq_rules (g : Grid) (n : Nat) :
    g.score n = { a := ruleA g n, b := ruleB g n, c := ruleC g n, d := ruleD g n, dark := darkCells g n } := by
  rw [Grid.score, penaltyA_lines, penaltyB_rows, penaltyC_lines, darkCount_rows, penaltyD_eq_gap]
  rfl

/-- Settles O57: each line-by-line score is its rule, and a grid has no more dark cells than cells. -/
theorem penaltyRules : Obligations.PenaltyRules := by
  unfold Obligations.PenaltyRules
  intro g n
  have hD : ruleD g n = penaltyD (darkCells g n) (n * n) := (penaltyD_eq_gap _ _).symm
  rw [score_eq_rules]
  refine ⟨rfl, rfl, rfl, rfl, rfl, rfl, Nat.mul_mod_right 10 _, ?_⟩
  exact hD.le.trans (penaltyD_le (darkCells_le g n))

end Sys2Proof.Machine
end

section
/-!
PROOFS. MX.PEN (O56): the search for an unassigned cell goes in row-major order, and finds none exactly on a complete grid
(R214).
-/

namespace Sys2Proof.Machine

open Sys2Proof.Claims

/-! ## The first unassigned cell -/

/-- Row-major order. -/
def RowMajor (x y : Nat × Nat) : Prop := x.1 < y.1 ∨ (x.1 = y.1 ∧ x.2 < y.2)

theorem pairwise_rowMajor_pairs (n : Nat) : (pairs (List.range n) (List.range n)).Pairwise RowMajor := by
  rw [pairs, List.pairwise_flatMap]
  refine ⟨fun r _ => List.pairwise_map.mpr (List.pairwise_lt_range.imp fun h => .inr ⟨rfl, h⟩),
    List.pairwise_lt_range.imp fun h x hx y hy => ?_⟩
  obtain ⟨_, -, rfl⟩ := List.mem_map.mp hx
  obtain ⟨_, -, rfl⟩ := List.mem_map.mp hy
  exact .inl h

section
variable {g : Grid} {n : Nat}

theorem firstUnassigned_eq_none (h : ∀ r < n, ∀ c < n, g.get r c ≠ .unassigned) : g.firstUnassigned n = none := by
  rw [Grid.firstUnassigned, List.find?_eq_none]
  intro rc hrc
  obtain ⟨hr, hc⟩ := mem_pairs.mp hrc
  simpa using h rc.1 (List.mem_range.mp hr) rc.2 (List.mem_range.mp hc)

theorem firstUnassigned_eq_some {r c : Nat} (hr : r < n) (hc : c < n) (hfree : g.get r c = .unassigned)
    (hbefore : ∀ r' < n, ∀ c' < n, r' < r ∨ (r' = r ∧ c' < c) → g.get r' c' ≠ .unassigned) :
    g.firstUnassigned n = some (r, c) := by
  have hmem : (r, c) ∈ pairs (List.range n) (List.range n) :=
    mem_pairs.mpr ⟨List.mem_range.mpr hr, List.mem_range.mpr hc⟩
  obtain ⟨before, after, hsplit⟩ := List.append_of_mem hmem
  rw [Grid.firstUnassigned, List.find?_eq_some_iff_append]
  refine ⟨decide_eq_true hfree, before, after, hsplit, fun rc hrc => ?_⟩
  have horder : RowMajor rc (r, c) := by
    have hpairwise := pairwise_rowMajor_pairs n
    rw [hsplit, List.pairwise_append] at hpairwise
    obtain ⟨-, -, hcross⟩ := hpairwise
    exact hcross rc hrc (r, c) List.mem_cons_self
  have hin : rc ∈ pairs (List.range n) (List.range n) := hsplit ▸ List.mem_append_left _ hrc
  obtain ⟨hr', hc'⟩ := mem_pairs.mp hin
  simpa using hbefore rc.1 (List.mem_range.mp hr') rc.2 (List.mem_range.mp hc') horder

end

/-! ## The command -/

theorem mxPenBody_of_firstUnassigned {s : State} {r c : Nat} (hgrid : s.modcnt ≠ 0#32)
    (h : s.grid.firstUnassigned (dim s) = some (r, c)) :
    mxPenBody s = .error (.incompleteGrid (Word.ofNat r) (Word.ofNat c)) := by
  rw [mxPenBody, s.checkGrid_eq_ok.mpr ⟨hgrid, rfl⟩, bind_ok, h]

/-- Writing a score writes the rules' parts, their total and the dark count. -/
theorem setScore_score (s : State) (g : Grid) (n : Nat) :
    s.setScore (g.score n) = { s with
      penA := Word.ofNat (ruleA g n), penB := Word.ofNat (ruleB g n), penC := Word.ofNat (ruleC g n),
      penD := Word.ofNat (ruleD g n), penalty := Word.ofNat (ruleTotal g n), darkcnt := Word.ofNat (darkCells g n) } := by
  rw [score_eq_rules]
  rfl

/-- Settles O56: the search decides between the score and the error. -/
theorem mxPenScoresACompleteGrid : Obligations.MxPenScoresACompleteGrid := by
  unfold Obligations.MxPenScoresACompleteGrid
  intro s h n
  refine ⟨fun hcomplete => ?_, fun r hr c hc hfree hbefore => ?_⟩
  · rw [← setScore_score]
    exact exec_of_commandBody_ok (i := .mxPen) (mxPenBody_eq_ok.mpr ⟨h.1, firstUnassigned_eq_none hcomplete, rfl⟩)
  · exact exec_of_commandBody_error (i := .mxPen)
      (mxPenBody_of_firstUnassigned h.1 (firstUnassigned_eq_some hr hc hfree hbefore))

end Sys2Proof.Machine
end

section
/-!
PROOFS. MX.SEL (O58): the eight trial builds complete together, and the search through their scores keeps the first mask
of least total (R215).
-/

namespace Sys2Proof.Machine

open Sys2Proof.Claims

/-! ## The choice among scored masks -/

/-- A mask is chosen when no mask of the list has a lower total and each one below it has a greater. -/
def IsChoice (score : MaskId → Score) (best : MaskId) (masks : List MaskId) : Prop :=
  ∀ m ∈ masks, (score best).total ≤ (score m).total ∧ (m < best → (score best).total < (score m).total)

/-- Over masks in rising order the search keeps the first one of least total. -/
theorem bestMask_isChoice (score : MaskId → Score) {first : MaskId} {rest : List MaskId}
    (horder : (first :: rest).Pairwise (· < ·)) :
    ∃ best, bestMask (first, score first) (rest.map fun m => (m, score m)) = (best, score best) ∧
      IsChoice score best (first :: rest) := by
  induction rest generalizing first with
  | nil =>
    refine ⟨first, rfl, fun m hm => ?_⟩
    obtain rfl := List.mem_singleton.mp hm
    exact ⟨le_rfl, fun h => absurd h (lt_irrefl _)⟩
  | cons next rest ih =>
    obtain ⟨hfirst, hnext⟩ := List.pairwise_cons.mp horder
    have hlt : first < next := hfirst next List.mem_cons_self
    rw [List.map_cons, bestMask]
    by_cases hless : (score next).total < (score first).total
    · obtain ⟨best, heq, hchoice⟩ := ih hnext
      refine ⟨best, ?_, ?_⟩
      · rw [if_pos hless, heq]
      · have hbest := (hchoice next List.mem_cons_self).1.trans_lt hless
        exact List.forall_mem_cons.mpr ⟨⟨hbest.le, fun _ => hbest⟩, hchoice⟩
    · have hskip : (first :: rest).Pairwise (· < ·) := horder.sublist (by simp)
      obtain ⟨best, heq, hchoice⟩ := ih hskip
      obtain ⟨hkept, hrest⟩ := List.forall_mem_cons.mp hchoice
      have hnot : (score first).total ≤ (score next).total := not_lt.mp hless
      have hskipped : next < best → (score best).total < (score next).total :=
        fun h => (hkept.2 (hlt.trans h)).trans_le hnot
      refine ⟨best, ?_, ?_⟩
      · rw [if_neg hless, heq]
      · exact List.forall_mem_cons.mpr ⟨hkept, List.forall_mem_cons.mpr ⟨⟨hkept.1.trans hnot, hskipped⟩, hrest⟩⟩

/-! ## The selection -/

section
variable {s : State}

/-- The score of the trial build with a mask. -/
def trialGridScore (s : State) (m : MaskId) : Score := (trialGrid s m).score (newDim s)

theorem total_trialGridScore (s : State) (m : MaskId) : (trialGridScore s m).total = trialTotal s m := by
  rw [trialGridScore, score_eq_rules]
  rfl

theorem trialGrid_of_ok (hv : versionOk s) (hc : centresOk s (newDim s)) (m : MaskId) :
    trialGrid s m = (builtState s m true).grid := by
  rw [trialGrid, exec_of_commandBody_ok (i := .mxBuild m true) (mxBuildBody_of_ok hv hc)]
  rfl

theorem trialScore_of_ok (hv : versionOk s) (hc : centresOk s (newDim s)) (m : MaskId) :
    trialScore s m = .ok (trialGridScore s m) := by
  rw [trialScore, mxBuildBody_of_ok hv hc, bind_ok, trialGridScore, trialGrid_of_ok hv hc, ← dim_clearedState hv]
  rfl

theorem eight_totals (score : MaskId → Score) :
    #v[score 0, score 1, score 2, score 3, score 4, score 5, score 6, score 7].map (fun x => Word.ofNat x.total)
      = Vector.ofFn fun m : MaskId => Word.ofNat (score m).total := by
  ext1 i hi
  rw [Vector.getElem_map, Vector.getElem_ofFn]
  interval_cases i <;> rfl

theorem ofFin_eq_ofNat_val (m : MaskId) : BitVec.ofFin (w := 3) m = BitVec.ofNat 3 m.val :=
  BitVec.eq_of_toNat_eq (Nat.mod_eq_of_lt m.isLt).symm

/-- With the eight trials complete, MX.SEL chooses among their scores and builds again. -/
theorem mxSelBody_of_trialScores {score : MaskId → Score} {t : State} {best : MaskId}
    (hscores : ∀ m, trialScore s m = .ok (score m))
    (hbest : bestMask (0, score 0) ([1, 2, 3, 4, 5, 6, 7].map fun m => (m, score m)) = (best, score best))
    (ht : mxBuildBody best false s = .ok t) :
    mxSelBody s = .ok (({ t with
      pentab := Vector.ofFn fun m => Word.ofNat (score m).total,
      masksel := BitVec.ofNat 3 best.val }).setScore (score best)) := by
  simp only [List.map_cons, List.map_nil] at hbest
  simp only [mxSelBody, hscores, bind_ok, hbest, ht, eight_totals, ofFin_eq_ofNat_val]

theorem mxSelBody_of_trial_error {e : EngineError} (h : mxBuildBody 0 true s = .error e) : mxSelBody s = .error e := by
  rw [mxSelBody, trialScore, h, bind_error, bind_error]

theorem reports_mxSel {e : EngineError} (h : mxBuildBody 0 true s = .error e) : reports .mxSel s e :=
  ⟨_, exec_of_commandBody_error (i := .mxSel) (mxSelBody_of_trial_error h), rfl, rfl, rfl, rfl⟩

end

/-- Settles O58: the masks rise from 0 to 7, so the first of least total is the least, and an error of the first trial is
the selection's. -/
theorem mxSelChoosesTheLeastPenalty : Obligations.MxSelChoosesTheLeastPenalty := by
  unfold Obligations.MxSelChoosesTheLeastPenalty
  refine fun s => ⟨fun hv hc => ?_, fun hv => reports_mxSel (mxBuildBody_of_bad_version hv),
    fun hv k hk hbefore hbad => reports_mxSel (mxBuildBody_of_bad_centre hv hk hbefore hbad)⟩
  obtain ⟨best, hbest, hchoice⟩ := bestMask_isChoice (trialGridScore s) (first := 0) (rest := [1, 2, 3, 4, 5, 6, 7])
    (by decide)
  have hall : ∀ m : MaskId, m ∈ ([0, 1, 2, 3, 4, 5, 6, 7] : List MaskId) := by decide
  have hbody := mxSelBody_of_trialScores (trialScore_of_ok hv hc) hbest (mxBuildBody_of_ok hv hc)
  simp only [IsChoice, total_trialGridScore] at hbody hchoice
  rw [trialGridScore, setScore_score] at hbody
  refine ⟨best, _, Vector.ofFn fun m => Word.ofNat (trialTotal s m),
    exec_of_commandBody_ok (i := .mxBuild best false) (mxBuildBody_of_ok hv hc),
    fun m => ⟨Vector.getElem_ofFn m.isLt, hchoice m (hall m)⟩, exec_of_commandBody_ok (i := .mxSel) hbody⟩

end Sys2Proof.Machine
end

section
/-!
PROOFS. How a command ends its step (O14, O15), and NOP and P.CLR (O25).
-/

namespace Sys2Proof.Machine

open Sys2Proof.Claims

/-! ## The end of a step (R231) -/

/-- What every end of the engine's step leaves: an idle engine that waits for no input, one more command counted, and the
port as it was. -/
structure StepEnded (s t : State) : Prop where
  idle : t.status.busy = false
  delay : t.delay = 0
  counted : t.cmdcnt = s.cmdcnt + 1#32
  inputs : t.inputs = s.inputs
  rstN : t.rstN = s.rstN

section
variable {i : Instr} {s t u : State}

theorem WritesOnly.stepEnded_normalEnd (h : WritesOnly i s u) : StepEnded s u.normalEnd := by
  rw [h]
  exact ⟨rfl, rfl, rfl, rfl, rfl⟩

theorem WritesOnly.stepEnded_errorEnd (h : WritesOnly i s u) (e : EngineError) : StepEnded s (u.errorEnd e) := by
  rw [h]
  exact ⟨rfl, rfl, rfl, rfl, rfl⟩

theorem stepEnded_of_exec (h : exec i s = .next t) : StepEnded s t := by
  obtain ⟨u, hu, rfl⟩ | ⟨e, -, rfl⟩ := exec_cases h
  · exact (commandBody_writesOnly hu).stepEnded_normalEnd
  · exact (errorBase_writesOnly i s).stepEnded_errorEnd e

theorem stepEnded_illegalStep (s : State) : StepEnded s s.illegalStep :=
  (WritesOnly.refl .nop s).stepEnded_errorEnd _

/-- A Writes list holds neither STATUS nor CMD nor CMDCNT (R13). -/
theorem WritesOnly.control (h : WritesOnly i s u) :
    u.status = s.status ∧ u.cmd = s.cmd ∧ u.cmdcnt = s.cmdcnt := by
  rw [h]
  exact ⟨rfl, rfl, rfl⟩

/-- A normal end sets DONE and leaves the error registers (R231). -/
theorem normalEnd_of_commandBody (hu : commandBody i s = .ok u) :
    u.normalEnd.status.done = true ∧ u.normalEnd.status.err = s.status.err ∧ u.normalEnd.errinfo0 = s.errinfo0 ∧
      u.normalEnd.errinfo1 = s.errinfo1 ∧ u.normalEnd.errcmd = s.errcmd := by
  obtain ⟨-, h0, h1, hcmd⟩ := commandBody_control hu
  obtain ⟨hstatus, -, -⟩ := (commandBody_writesOnly hu).control
  exact ⟨rfl, congrArg (fun st : Status => st.normal.err) hstatus, h0, h1, hcmd⟩

/-- An error end leaves DONE and records the command's word (R231, R233). -/
theorem errorEnd_of_errorBase (i : Instr) (s : State) (e : EngineError) :
    ((errorBase i s).errorEnd e).status = { s.status with busy := false, err := e.code } ∧
      ((errorBase i s).errorEnd e).errcmd = s.cmd := by
  obtain ⟨hstatus, hcmd, -⟩ := (errorBase_writesOnly i s).control
  exact ⟨congrArg (Status.failed · e.code) hstatus, hcmd⟩

theorem errorBase_of_not_composed (h : composed i = false) : errorBase i s = s := by
  cases i
  case mxBuild | mxSel | qBuild => cases h
  all_goals rfl

end

/-- Settles O14: by the two ends, after a body that keeps to its Writes list. -/
theorem everyCommandEnds : Obligations.EveryCommandEnds := by
  unfold Obligations.EveryCommandEnds
  intro i s
  obtain ⟨t, ht⟩ := exec_next i s
  have hend := stepEnded_of_exec ht
  refine ⟨t, ht, hend.idle, (exec_frame ht).2, hend.counted, ?_⟩
  obtain ⟨u, hu, rfl⟩ | ⟨e, -, rfl⟩ := exec_cases ht
  · exact .inl (normalEnd_of_commandBody hu)
  · obtain ⟨hstatus, hcmd⟩ := errorEnd_of_errorBase i s e
    exact .inr ⟨by rw [hstatus], e.code_ne_none, hcmd⟩

/-- Settles O15: an error end starts from the state before the command, or from the draws of a composed command. -/
theorem errorEndChangesOnlyWhatItMay : Obligations.ErrorEndChangesOnlyWhatItMay := by
  unfold Obligations.ErrorEndChangesOnlyWhatItMay
  intro i s t hfree ht herr
  obtain ⟨u, hu, rfl⟩ | ⟨e, -, rfl⟩ := exec_cases ht
  · obtain ⟨-, hkept, -⟩ := normalEnd_of_commandBody hu
    exact absurd (hkept.trans hfree) herr
  · obtain ⟨hstatus, hcmd⟩ := errorEnd_of_errorBase i s e
    have hbase := errorBase_writesOnly i s
    refine ⟨e, hstatus, rfl, rfl, hcmd, fun hplain => ?plain, ?composed⟩
    case plain =>
      rw [errorBase_of_not_composed hplain]
      rfl
    case composed =>
      generalize errorBase i s = v at hbase ⊢
      refine ⟨?build, ?select, ?symbol⟩
      case build =>
        rintro m trial rfl
        rw [hbase]
        rfl
      all_goals
        rintro rfl
        rw [hbase]
        rfl

/-! ## NOP and P.CLR -/

/-- Outside the OP the row of NOP leaves no bit free, so only the zero word passes (R226). -/
theorem decode_of_nop_opcode {w : Word} (hop : w.toNat / 2 ^ 24 = 0) (hne : w ≠ 0#32) : decode w = .error .mustBeZero := by
  have hguard : decode w = rowGuard w 0xFFFFFFFF#32 .nop := by
    rw [decode, toNat_opField, hop]
    rfl
  have hclear : ¬ fieldsClear w 0xFFFFFFFF#32 = true := fun hclear =>
    hne (decode_eq_ok_iff.mp (hguard.trans (if_pos hclear))).2.symm
  exact hguard.trans (if_neg hclear)

/-- Settles O25: both commands complete at once, and the decoder's first arm takes no word but 0. -/
theorem nopAndPClr : Obligations.NopAndPClr := by
  unfold Obligations.NopAndPClr
  refine ⟨fun _ => rfl, fun _ => decode_of_nop_opcode, fun s d => ⟨rfl, ?_, poly_setPoly_same s d _⟩⟩
  rw [view_plen, poly_setPoly_same]
  rfl

end Sys2Proof.Machine
end

section
/-!
PROOFS. Writes that change nothing but DROP (O7), the two resets (O9), and the reset values (O10, O18).
-/

namespace Sys2Proof.Machine

open Sys2Proof.Claims

/-! ## Dropped and ignored writes (R236) -/

/-- An idle engine ignores a write to a read-only location (R25, R63). -/
theorem State.idleWrite_readOnly (s : State) {loc : Location} (h : readOnly loc = true) (w : Word) :
    s.idleWrite loc w = s := by
  cases loc
  case ctrl | status | cmd | arg0 | arg1 | version | eclevel | blkcnt | alncnt | alntab | blktab | stage => cases h
  all_goals rfl

/-- Settles O7: a busy engine drops, an engine in error drops a CMD write, and an idle one ignores read-only locations. -/
theorem droppedAndIgnoredWrites : Obligations.DroppedAndIgnoredWrites := by
  unfold Obligations.DroppedAndIgnoredWrites
  refine fun s loc w hrst => ⟨fun hbusy => State.hostWrite_dropped hrst hbusy, fun hidle herr => ?_, fun hidle hloc => ?_,
    rfl, rfl⟩
  · rw [State.hostWrite_idle hrst hidle, State.idleWrite_cmd_inError herr]
  · rw [State.hostWrite_idle hrst hidle, s.idleWrite_readOnly hloc]

/-! ## Resets (R251, R252) -/

/-- A reset with the pin high leaves the state of R253, but for what is not the engine's. -/
theorem State.engineReset_of_rstN {s : State} (hrst : s.rstN = true) :
    s.engineReset = { State.reset with rdata := s.rdata, inputs := s.inputs, freeCount := s.freeCount } := by
  rw [State.engineReset, hrst]
  rfl

/-- Every location shows its reset value after a reset: none shows what a reset leaves. -/
theorem view_engineReset (s : State) (loc : Location) : s.engineReset.view loc = State.reset.view loc := by
  cases loc <;> rfl

/-- Settles O9: both edges and the soft reset are `engineReset`, which sets every piece of the engine's state. -/
theorem resetsRestoreEverything : Obligations.ResetsRestoreEverything := by
  unfold Obligations.ResetsRestoreEverything
  refine fun s => ⟨?hard, fun w hrst hw => ?soft, view_engineReset s, rfl⟩
  case hard =>
    exact ⟨{ s.engineReset with rstN := false }, rfl, rfl, rfl, rfl, State.hostWrite_reset rfl, fun _ => rfl, _, rfl, rfl⟩
  case soft => rw [State.hostWrite_softReset hrst hw, State.engineReset_of_rstN hrst]

/-- Settles O18: the reset state is its own reset. -/
theorem resetMeetsTheInvariant : Obligations.ResetMeetsTheInvariant := State.engineReset_inv State.reset

/-! ## Reset values (R253) -/

/-- R122: EXP holds the powers of α, the entry at 255 included. -/
theorem expTable_eq_alphaPow {i : Nat} (hi : i < 256) : expTable i = alphaPow i := by
  induction i with
  | zero => exact expTable_zero
  | succ i ih =>
    rw [expTable_succ i (by omega), ih (by omega), alphaPow, alphaPow, Function.iterate_succ_apply']

/-- R122: LOG holds the exponents of the powers of α. -/
theorem logTable_alphaPow {i : Nat} (hi : i < 255) : logTable (alphaPow i).toNat = i := by
  rw [← expTable_eq_alphaPow (by omega), logTable_expTable i hi]

theorem bbByte_nil (k : Nat) : bbByte [] k = 0#8 := by
  rw [bbByte, List.drop_nil, List.take_nil]
  rfl

theorem getD_toList_replicate {α : Type} (n i : Nat) (d : α) : (Vector.replicate n d).toList.getD i d = d := by
  rw [Vector.toList_replicate, List.getD_eq_getElem?_getD, List.getElem?_getD_replicate_default_eq]

theorem poly_reset (i : PReg) : State.reset.poly i = [0#8] := Vector.getElem_replicate i.isLt

theorem view_reset_pentab (m : Nat) : State.reset.view (.pentab m) = 0#32 := getD_toList_replicate 8 m _

theorem view_reset_blktab (w : Nat) : State.reset.view (.blktab w) = 0#32 := getD_toList_replicate 128 w _

theorem view_reset_alntab (w : Nat) : State.reset.view (.alntab w) = 0#32 :=
  congrArg byteWord (getD_toList_replicate 7 w 0#8)

theorem view_reset_plen (i : PReg) : State.reset.view (.plen i.val) = 1#32 := by
  rw [view_plen, poly_reset]
  rfl

/-- Settles O10: each register's value by definition, the tables' entry by entry, the ROMs by the powers of α. -/
theorem resetValues : Obligations.ResetValues := by
  unfold Obligations.ResetValues
  refine ⟨rfl, rfl, rfl, rfl, rfl, rfl, rfl, rfl, rfl, rfl, rfl, rfl, rfl, rfl, rfl, rfl, rfl, rfl, rfl, rfl, rfl, rfl, rfl,
    rfl, rfl, fun m _ => view_reset_pentab m, fun i => ⟨poly_reset i, view_reset_plen i⟩, rfl, rfl,
    fun w _ => view_reset_blktab w, fun w _ => view_reset_alntab w,
    fun w => ⟨rfl, congrArg byteWord (bbByte_nil w), rfl, rfl⟩, rfl, fun _ _ => rfl, rfl, rfl, fun _ _ => ⟨rfl, rfl⟩,
    fun i hi => congrArg byteWord (expTable_eq_alphaPow hi), rfl, fun i hi => congrArg Word.ofNat (logTable_alphaPow hi)⟩

end Sys2Proof.Machine
end

section
/-!
PROOFS. A host that waits (O6): each WAIT brings the engine's turn nearer by one input, and after the engine's step the
next WAIT ends.
-/

namespace Sys2Proof.Machine

open Sys2Proof.Claims

/-! ## A WAIT on a busy and on an idle engine (R99) -/

section
variable {s : State} {rest : List Input}

/-- A WAIT's read of STATUS is answered by a busy engine too, with BUSY in bit 0 (R27, R67). -/
theorem hostRead_status (hrst : s.rstN = true) :
    s.hostRead .status = { s with rdata := s.view .status } ∧ (s.hostRead .status).rdata.getLsbD 0 = s.status.busy := by
  have hread := State.hostRead_readable (loc := .status) hrst rfl
  rw [hread]
  exact ⟨rfl, s.status.word_layout.1⟩

theorem perform_wait_busy (hrst : s.rstN = true) (hbusy : s.status.busy = true) :
    s.perform .wait = .next { s with rdata := s.view .status, inputs := .wait :: s.inputs } := by
  obtain ⟨hread, hbit⟩ := hostRead_status hrst
  rw [State.perform, hbit, if_pos hbusy, hread]

theorem perform_wait_idle (hrst : s.rstN = true) (hidle : s.status.busy = false) :
    s.perform .wait = .next { s with rdata := s.view .status } := by
  obtain ⟨hread, hbit⟩ := hostRead_status hrst
  rw [State.perform, hbit, if_neg (Bool.eq_false_iff.mp hidle), hread]

/-- A WAIT that reads BUSY = 1 brings the engine's turn nearer and stands first again. -/
theorem step_wait_busy (hrst : s.rstN = true) (hbusy : s.status.busy = true) (hmoves : s.engineMoves = false)
    (hin : s.inputs = .wait :: rest) :
    step s = .next { s with delay := s.delay - 1, rdata := s.view .status } := by
  rw [step_of_input hmoves hin, perform_wait_busy (by exact hrst) (by exact hbusy), ← hin]
  rfl

/-- A WAIT that reads BUSY = 0 ends. -/
theorem step_wait_idle (hrst : s.rstN = true) (hidle : s.status.busy = false) (hdelay : s.delay = 0)
    (hin : s.inputs = .wait :: rest) :
    step s = .next { s with inputs := rest, rdata := s.view .status } := by
  have hmoves : s.engineMoves = false := by simp [State.engineMoves, hidle]
  rw [step_of_input hmoves hin, perform_wait_idle (by exact hrst) (by exact hidle), hdelay]
  rfl

end

/-! ## The engine's turn (R255) -/

/-- A run begins with its first step. -/
theorem run_succ_of_step {M : Host.Core} {k : Nat} {s t : M.State} (h : M.step s = .next t) :
    M.run (k + 1) s = M.run k t := by
  rw [Host.Core.run, h]

/-- Each WAIT counts the schedule down, so the engine's turn comes within as many steps as it allows. -/
theorem exists_run_to_engineMoves {s : State} (hrst : s.rstN = true) (hbusy : s.status.busy = true)
    (hwait : ∀ i ∈ s.inputs, i = .wait) :
    ∃ (k delay : Nat) (rdata : Word), k ≤ s.delay ∧
      core.run k s = .next { s with delay := delay, rdata := rdata } ∧
      State.engineMoves { s with delay := delay, rdata := rdata } = true := by
  induction hdelay : s.delay generalizing s with
  | zero => exact ⟨0, s.delay, s.rdata, le_rfl, rfl, s.engineMoves_iff.mpr ⟨hrst, hbusy, .inl hdelay⟩⟩
  | succ n ih =>
    obtain hin | hne := eq_or_ne s.inputs []
    · exact ⟨0, s.delay, s.rdata, Nat.zero_le _, rfl, s.engineMoves_iff.mpr ⟨hrst, hbusy, .inr hin⟩⟩
    · obtain ⟨i, rest, hin⟩ := List.exists_cons_of_ne_nil hne
      obtain rfl : i = .wait := hwait i (by simp [hin])
      have hmoves : s.engineMoves = false := by simp [State.engineMoves, hdelay, hin]
      have hstep := step_wait_busy hrst hbusy hmoves hin
      rw [hdelay, Nat.add_sub_cancel] at hstep
      obtain ⟨k, delay, rdata, hk, hrun, hturn⟩ :=
        ih (s := { s with delay := n, rdata := s.view .status }) hrst hbusy hwait rfl
      exact ⟨k + 1, delay, rdata, Nat.succ_le_succ hk, (run_succ_of_step (M := core) hstep).trans hrun, hturn⟩

theorem stepEnded_of_engineMoves {s t : State} (hmoves : s.engineMoves = true) (h : step s = .next t) : StepEnded s t := by
  obtain ⟨-, ⟨i, -, hi⟩ | rfl⟩ | ⟨hnot, -⟩ := step_cases h
  · exact stepEnded_of_exec hi
  · exact stepEnded_illegalStep s
  · exact absurd hmoves (Bool.eq_false_iff.mp hnot)

/-- Settles O6: the WAITs lead to the engine's turn, its step ends as every step does, and the next WAIT finds it idle. -/
theorem waitingHostSeesTheCommandPerformed : Obligations.WaitingHostSeesTheCommandPerformed := by
  unfold Obligations.WaitingHostSeesTheCommandPerformed
  intro s hrst hbusy hwait
  obtain ⟨k, delay, rdata, hk, hrun, hturn⟩ := exists_run_to_engineMoves hrst hbusy hwait
  obtain ⟨u, hu⟩ := step_next_of_engineMoves hturn
  have hend := stepEnded_of_engineMoves hturn hu
  refine ⟨k, _, u, hk, hrun, hturn, rfl, hu, fun i hd => (step_of_decode hturn hd).symm.trans hu,
    fun e hd => Host.Outcome.next.inj (hu.symm.trans (step_of_decode_error hturn hd)), hend.idle, hend.counted, hend.inputs,
    fun rest hin => ?_⟩
  exact ⟨_, step_wait_idle (hend.rstN.trans hrst) hend.idle hend.delay (hend.inputs.trans hin), rfl,
    u.status.word_layout.1.trans hend.idle⟩

end Sys2Proof.Machine
end

section
/-!
PROOFS. Q.BUILD (O59): the assembler's three commands complete together, MX.SEL goes on from the stream they leave, and
none of the four looks at what an end of step writes (R227).
-/

namespace Sys2Proof.Machine

open Sys2Proof.Claims

/-! ## The assembler's steps -/

section
variable {s u : State}

/-- What BW.FIN leaves. -/
def paddedState (s : State) : State :=
  { s with
    bb := padded s.bb (totalDataBits s.blocks),
    bitlen := Word.ofNat (padded s.bb (totalDataBits s.blocks)).length }

/-- What BW.FIN and RS.ALL leave. -/
def checkedState (s : State) : State :=
  let t := paddedState s
  ({ t with
    ecc := ((List.range t.blocks.length).foldl (fun (t' : State) k => t'.storeBlockEcc t.blocks k) t).ecc }).setResult
      (checkCodewords t.blocks)

/-- What BW.FIN, RS.ALL and CW.ILV leave. -/
def assembledState (s : State) : State :=
  let t := checkedState s
  { t with
    cw := Memory.ofBytes (t.codewordStream t.blocks), cwlen := Word.ofNat (t.codewordStream t.blocks).length }

theorem totalDataBits_blocks (h : tableOk s) : totalDataBits s.blocks = 8 * sumBelow (dc s) s.blkcnt.toNat := by
  rw [totalDataBits, dataCodewords_blocks (blkcnt_le_of_tableOk h)]

/-- The three steps leave the table as it is, so it passes R172 each time. -/
theorem assembly_steps (h : tableOk s) (hfits : s.bb.length ≤ 8 * sumBelow (dc s) s.blkcnt.toNat) :
    bwFinBody s = .ok (paddedState s) ∧ rsAllBody (paddedState s) = .ok (checkedState s) ∧
      cwIlvBody (checkedState s) = .ok (assembledState s) := by
  rw [← totalDataBits_blocks h] at hfits
  exact ⟨bwFinBody_eq_ok.mpr ⟨checkBlocks_of_tableOk h, hfits, rfl⟩,
    rsAllBody_eq_ok.mpr ⟨checkBlocks_of_tableOk (s := paddedState s) h, rfl⟩,
    cwIlvBody_eq_ok.mpr ⟨checkBlocks_of_tableOk (s := checkedState s) h, rfl⟩⟩

theorem qBuildBody_of_fits (h : tableOk s) (hfits : s.bb.length ≤ 8 * sumBelow (dc s) s.blkcnt.toNat) :
    qBuildBody s = mxSelBody (assembledState s) := by
  obtain ⟨hfin, hall, hilv⟩ := assembly_steps h hfits
  rw [qBuildBody, hfin, bind_ok, hall, bind_ok, hilv, bind_ok]

theorem qBuildBody_of_full (h : tableOk s) (hfull : 8 * sumBelow (dc s) s.blkcnt.toNat < s.bb.length) :
    qBuildBody s = .error (.capacityOverflow (Word.ofNat s.bb.length)
      (Word.ofNat (8 * sumBelow (dc s) s.blkcnt.toNat))) := by
  rw [← totalDataBits_blocks h] at hfull ⊢
  have hfin : bwFinBody s
      = .error (.capacityOverflow (Word.ofNat s.bb.length) (Word.ofNat (totalDataBits s.blocks))) := by
    rw [bwFinBody, checkBlocks_of_tableOk h, bind_ok]
    exact if_pos hfull
  rw [qBuildBody, hfin, bind_error]

theorem exists_mxSelBody_eq_ok (hv : versionOk s) (hc : centresOk s (newDim s)) : ∃ u, mxSelBody s = .ok u := by
  simp only [mxSelBody, trialScore_of_ok hv hc, mxBuildBody_of_ok hv hc, bind_ok]
  exact ⟨_, rfl⟩

theorem reports_qBuild {e : EngineError} (h : qBuildBody s = .error e) : reports .qBuild s e :=
  ⟨_, exec_of_commandBody_error (i := .qBuild) h, rfl, rfl, rfl, rfl⟩

/-- VERSION and the centres are checked after the stream is written (R227). -/
theorem buildErrors_qBuild (h : tableOk s) (hfits : s.bb.length ≤ 8 * sumBelow (dc s) s.blkcnt.toNat) :
    buildErrors .qBuild s := by
  have hbody := qBuildBody_of_fits h hfits
  refine ⟨fun hv => reports_qBuild (hbody.trans ?_), fun hv k hk hbefore hbad => reports_qBuild (hbody.trans ?_)⟩
  · exact mxSelBody_of_trial_error (mxBuildBody_of_bad_version (s := assembledState s) hv)
  · exact mxSelBody_of_trial_error (mxBuildBody_of_bad_centre (s := assembledState s) hv hk hbefore hbad)

end

/-! ## Commands in a row -/

theorem ignoresEnds_mxClr : IgnoresEnds .mxClr := by
  intro s u k h
  obtain ⟨hv, rfl⟩ := mxClrBody_eq_ok.mp h
  exact mxClrBody_eq_ok.mpr ⟨hv, rfl⟩

theorem foldl_storeBlockEcc_ended (bs : List Block) (ks : List Nat) (s : State) (k : Nat) :
    ks.foldl (fun t j => t.storeBlockEcc bs j) (s.ended k) = (ks.foldl (fun t j => t.storeBlockEcc bs j) s).ended k :=
  List.foldl_hom (State.ended · k) fun _ _ => rfl

theorem ignoresEnds_rsAll : IgnoresEnds .rsAll := by
  intro s u k h
  obtain ⟨hblocks, rfl⟩ := rsAllBody_eq_ok.mp h
  refine rsAllBody_eq_ok.mpr ⟨hblocks, ?_⟩
  rw [foldl_storeBlockEcc_ended]
  rfl

theorem ignoresEnds_cwIlv : IgnoresEnds .cwIlv := by
  intro s u k h
  obtain ⟨hblocks, rfl⟩ := cwIlvBody_eq_ok.mp h
  exact cwIlvBody_eq_ok.mpr ⟨hblocks, rfl⟩

/-- Each of the seven steps of a build goes on from the ended state as it does from the other. -/
theorem ignoresEnds_mxBuild (m : MaskId) (trial : Bool) : IgnoresEnds (.mxBuild m trial) := by
  intro s u k h
  simp only [commandBody, mxBuildBody, bind_eq_ok] at h ⊢
  obtain ⟨s1, hclr, s2, hfnd, s3, haln, s4, htim, s5, hfmt, s6, hver, hmap⟩ := h
  exact ⟨_, ignoresEnds_mxClr _ _ k hclr, _, ignoresEnds_mxFnd _ _ k hfnd, _, ignoresEnds_mxAln _ _ k haln,
    _, ignoresEnds_mxTim _ _ k htim, _, ignoresEnds_mxFmt m trial _ _ k hfmt, _, ignoresEnds_mxVer trial _ _ k hver,
    ignoresEnds_mxMap m _ _ k hmap⟩

theorem trialScore_ended {s : State} {m : MaskId} {x : Score} (h : trialScore s m = .ok x) (k : Nat) :
    trialScore (s.ended k) m = .ok x := by
  simp only [trialScore, bind_eq_ok] at h ⊢
  obtain ⟨t, ht, hx⟩ := h
  exact ⟨t.ended k, ignoresEnds_mxBuild m true _ _ k ht, hx⟩

/-- What MX.SEL writes after its build is none of what an end of step writes. -/
theorem select_ended (t : State) (totals : Vector Word 8) (mask : BitVec 3) (x : Score) (k : Nat) :
    ({ t.ended k with pentab := totals, masksel := mask }).setScore x
      = (({ t with pentab := totals, masksel := mask }).setScore x).ended k := rfl

theorem ignoresEnds_mxSel : IgnoresEnds .mxSel := by
  intro s u k h
  simp only [commandBody, mxSelBody, bind_eq_ok, Except.ok.injEq] at h ⊢
  obtain ⟨x0, h0, x1, h1, x2, h2, x3, h3, x4, h4, x5, h5, x6, h6, x7, h7, t, ht, rfl⟩ := h
  exact ⟨x0, trialScore_ended h0 k, x1, trialScore_ended h1 k, x2, trialScore_ended h2 k, x3, trialScore_ended h3 k,
    x4, trialScore_ended h4 k, x5, trialScore_ended h5 k, x6, trialScore_ended h6 k, x7, trialScore_ended h7 k,
    t.ended k, ignoresEnds_mxBuild _ false _ _ k ht, select_ended t _ _ _ k⟩

theorem runAll_qBuild_steps {s u : State} (h : tableOk s) (hfits : s.bb.length ≤ 8 * sumBelow (dc s) s.blkcnt.toNat)
    (hu : mxSelBody (assembledState s) = .ok u) :
    runAll [.bwFin, .rsAll, .cwIlv, .mxSel] s = some (u.ended 4) := by
  obtain ⟨hfin, hall, hilv⟩ := assembly_steps h hfits
  calc runAll [.bwFin, .rsAll, .cwIlv, .mxSel] s
      = runAll [.rsAll, .cwIlv, .mxSel] ((paddedState s).ended 1) := runAll_cons (i := .bwFin) hfin
    _ = runAll [.cwIlv, .mxSel] ((checkedState s).ended 2) := runAll_cons_ended ignoresEnds_rsAll hall 1
    _ = runAll [.mxSel] ((assembledState s).ended 3) := runAll_cons_ended ignoresEnds_cwIlv hilv 2
    _ = some (u.ended 4) := runAll_cons_ended ignoresEnds_mxSel hu 3

/-- Settles O59: the steps as commands leave what the build leaves, and after the stream is written only MX.SEL can fail. -/
theorem qBuildIsItsSteps : Obligations.QBuildIsItsSteps := by
  unfold Obligations.QBuildIsItsSteps
  intro s htable cap
  refine ⟨fun hfits hv hc => ?done, fun hfull => reports_qBuild (qBuildBody_of_full htable hfull),
    buildErrors_qBuild htable⟩
  case done =>
    obtain ⟨u, hu⟩ := exists_mxSelBody_eq_ok (s := assembledState s) hv hc
    have hbody : commandBody .qBuild s = .ok u := (qBuildBody_of_fits htable hfits).trans hu
    obtain ⟨hdone, herr, -⟩ := normalEnd_of_commandBody hbody
    obtain ⟨-, -, hcount⟩ := (commandBody_writesOnly hbody).control
    refine ⟨u.normalEnd, exec_of_commandBody_ok hbody, hdone, herr, ?_⟩
    rw [runAll_qBuild_steps htable hfits hu, ← hcount]
    rfl

end Sys2Proof.Machine
end
